-- ==== Sys2Proof/Word.lean ====
section
/-! DEFINITION. The plainest types of the model: a byte of a CAN frame and a moment of part time. -/

namespace Sys2Proof

/-- One data byte of a CAN frame or of a record. -/
abbrev Byte := BitVec 8

/-- A moment of part time, or a span of it, in milliseconds (the unit of R18, R36 and R118). -/
abbrev Millis := Nat

end Sys2Proof
end

