-- ==== Sys2Proof/Syntax.lean ====
section
/-! DEFINITION. The commands of the PD460: one constructor of `Instr` for each row of the operation table,
with the operands that the frame layouts of R182 or the rule of the row give it, and the small sets of
names those operands use. -/

namespace Sys2Proof

/-- The three cab-link masters (nodes 5, 6 and 7) that send COMMAND frames on link B. -/
inductive Master where
  | cdt | tg | st
deriving DecidableEq, Repr, Inhabited

/-- The three CAN links: A machine link, B cab link, S sensor link. -/
inductive Link where
  | a | b | s
deriving DecidableEq, Repr, Inhabited

/-- The six sensor channels in the fixed order of R17, bound to nodes 8 to 13. -/
inductive Channel where
  | boomAng | stickAng | bucketAng | upperTilt | slewEnc | boomPress
deriving DecidableEq, Repr, Inhabited

/-- The eight hydraulic functions, in function order (00 section 5.4). -/
inductive HydFn where
  | boomUp | boomDown | stickIn | stickOut | bucketCurl | bucketDump | slewLeft | slewRight
deriving DecidableEq, Repr, Inhabited

/-- The two engines: E1 at node 3, E2 at node 4. -/
inductive Engine where
  | e1 | e2
deriving DecidableEq, Repr, Inhabited

/-- The level of the KEY input. -/
inductive KeyLevel where
  | off | on
deriving DecidableEq, Repr, Inhabited

/-- The pilot lockout state that a PVC_STATE reports. -/
inductive Lockout where
  | engaged | released
deriving DecidableEq, Repr, Inhabited

/-- Eight values, one per hydraulic function, in function order. -/
structure PerFn (α : Type) where
  boomUp : α
  boomDown : α
  stickIn : α
  stickOut : α
  bucketCurl : α
  bucketDump : α
  slewLeft : α
  slewRight : α
deriving DecidableEq, Repr, Inhabited

/-- The commands, one constructor per row of the operation table and in its order. A command of a cab-link
master carries its sender first; a number is carried as the frame's field gives it, in range or not. -/
inductive Instr where
  -- supply, reset, key and mode events
  | mainSupplyApplied
  | supplyLow
  | supplyRecovered
  | resetLineAsserted
  | resetLineReleased
  | keyLevelChange (level : KeyLevel)
  | keyOffTaken
  | keyOnTaken
  | loadingComplete
  | stSilenceTimeout
  | enterSleep
  | partResetTakesEffect
  -- sensor intake and pose
  | sensorSample (ch : Channel) (v1 v2 : Int) (counter : Nat) (faultFlag : Bool)
  | stalenessMark (ch : Channel)
  | failureMark (ch : Channel)
  | poseTimer
  | poseReportTimer
  -- machine link
  | pvcState (demand lockout : Nat) (oil : Int) (applied : Nat) (group1 group2 : Bool)
  | pvcLevers (demands : PerFn Nat)
  | leverStalenessMark
  | engineStatus (e : Engine) (code speed : Nat) (coolant : Int) (fuelRate load : Nat) (noStop : Bool)
  | frameDiscarded (link : Link) (kind node len : Nat)
  | grantRefresh
  | grantUnconfirmed
  | responseFailTimeout (f : HydFn)
  -- engine set and economy
  | engineSilence (e : Engine)
  | engineRequestRefresh (e : Engine)
  | startTimeout (e : Engine)
  | joinRefused (e : Engine)
  | leaveRefused (e : Engine)
  | cooldownEnd (e : Engine)
  | stopTimeout (e : Engine)
  | retryWaitEnd (e : Engine)
  | joinHoldReached
  | leaveHoldReached
  | autoIdleTimeout
  | lockoutTimeout
  | shutdownDelayEnd
  | countdownStep
  | countdownEnd
  | fuelTimer
  | feedTimer
  -- service, clock, links, store
  | saveTimer
  | reminderTimer
  | clockSecond
  | pvcSilent
  | tokenSilence
  | frameTransmit (link : Link)
  | regionWriteComplete
  | regionWriteFail
  -- commands of the cab-link masters
  | commandCrcError
  | unknownCommand (m : Master) (code : Nat)
  | readStatus (m : Master)
  | readPose (m : Master)
  | readChannels (m : Master)
  | readFenceSet (m : Master) (n : Nat)
  | readItem (m : Master) (k : Nat)
  | readMeters (m : Master)
  | readOpenTruck (m : Master)
  | readCompletedTrucks (m : Master)
  | readSettings (m : Master)
  | readCalibration (m : Master)
  | tokenRequest (m : Master) (policy : Nat)
  | tokenRelease (m : Master)
  | abandon (m : Master)
  | stageSet (m : Master) (n : Nat)
  | stageItem (m : Master) (k : Nat)
  | stageCal (m : Master)
  | fenceWriteFirst (m : Master) (index kind enabled margin creep : Nat)
  | fenceWriteSecond (m : Master) (index word1 word2 : Nat)
  | fenceSector (m : Master) (index form aStart aEnd : Nat)
  | fenceClear (m : Master) (index : Nat)
  | itemWrite (m : Master) (field : Nat) (value : Int)
  | itemWriteClear (m : Master)
  | calWrite (m : Master) (field : Nat) (value : Int)
  | commit (m : Master) (crc : Nat)
  | selectSet (m : Master) (n : Nat)
  | selectSetNone (m : Master)
  | lockFences (m : Master)
  | unlockFences (m : Master)
  | enterService (m : Master)
  | exitService (m : Master)
  | partReset (m : Master)
  | engineReset (m : Master)
  | clearViolations (m : Master)
  | clearFaults (m : Master)
  | setGrade (m : Master) (zRef slope xRef : Int)
  | setGradeStop (m : Master) (stop margin : Nat)
  | clearGrade (m : Master)
  | truckDone (m : Master)
  | idleHold (m : Master)
  | ackItem (m : Master) (k : Nat)
  | serviceDone (m : Master) (k : Nat)
  | extendItem (m : Master) (k : Nat)
  | meterWrite (m : Master) (code value : Nat)
  | setClock (m : Master) (seconds : Nat)
  | selectMode (m : Master) (code : Nat)
  | setIdle (m : Master) (autoIdle shutdown : Nat)
  | setTruckTarget (m : Master) (kg : Nat)
  | backupSupplyFailed
  | noticeSpacingElapsed
deriving DecidableEq, Repr

end Sys2Proof
end

