-- ==== Sys2Proof/Config.lean ====
section
/-! DEFINITION. The values the spec leaves open: opaque constants, so that nothing can be proved about them
but what holds for every value. Each says where the spec is silent. -/

namespace Sys2Proof

/-- DESIGN CHOICE (log 9). The lockout state that a PVC_STATE byte other than 0 or 1 reports: R182 codes only
0 and 1. -/
opaque Config.lockoutOfCode : Nat → Lockout

/-- DESIGN CHOICE (log 1). Where a mark reached at part time `t` takes its place among the marks reached in
the same millisecond: the spec gives either order ("whichever is taken first"). The second argument is the
mark's number in the model's own listing. -/
opaque Config.tiePlace : Millis → Nat → Nat

/-- DESIGN CHOICE (log 10). The value field of a notice for which the owning rule states none, by the code of
the notice kind (R182) and the subject. -/
opaque Config.unstatedNoticeValue : Nat → Nat → Nat

/-- DESIGN CHOICE (log 10). The detail field of a reply for which the owning rule states none, by the command
code and the result code (R182). -/
opaque Config.unstatedDetail : Nat → Nat → Nat

/-- DESIGN CHOICE (log 11). The bytes that fill the last RECORD frame of a read after the content ends. -/
opaque Config.recordPad : Nat → Byte

/-- DESIGN CHOICE (log 11). The two bytes of a POSE_REPORT coordinate while the coordinates are absent (bit 5
of byte 7 shows the absence, R182). -/
opaque Config.absentCoordinate : Nat → Nat

/-- DESIGN CHOICE (log 11). The one-byte code, in the content of a record, of a name to which the spec gives
no code: the first number names the set of names, the second the name's place in the spec's listing. -/
opaque Config.nameCode : Nat → Nat → Byte

/-- DESIGN CHOICE (log 11). What a four-byte field of a record shows of a value that four bytes cannot hold (a
fuel reading above 4,294,967,295 mL). -/
opaque Config.recordOverflow : Nat → Nat

/-- DESIGN CHOICE (log 6). What a READ METERS before loading completes shows for the part of the record with
this number: R162 says the meters hold no value then. -/
opaque Config.unloadedMeter : Nat → Nat

/-- DESIGN CHOICE (log 12). The write count left in a bank whose write was cut short or failed its read-back;
the argument counts the free values drawn. -/
opaque Config.tornCount : Nat → BitVec 16

/-- DESIGN CHOICE (log 12). The CRC left in such a bank; it does not match (R194, R195), whatever this value is. -/
opaque Config.tornCrc : Nat → BitVec 16

/-- DESIGN CHOICE (log 12). The bit rate (link 0, 1, 2) left in such a bank of the CALIBRATION region, which
R180 reads before the bank's check. -/
opaque Config.tornRate : Nat → Nat → Int

/-- DESIGN CHOICE (log 13). Whether a region write that has run its 250 ms verifies, when no command has said
so before. -/
opaque Config.writeVerifies : Nat → Bool

/-- DESIGN CHOICE (log 12). The calendar clock after 4,294,967,295 s, within its range (R196 gives the range and no
wrap). -/
opaque Config.clockAfterTop : Nat → BitVec 32

end Sys2Proof
end

