-- ==== Sys2Proof/Decode.lean ====
section
/-! DEFINITION. Reading commands from the outside. The operation table gives its rows no bits, so
`decodeTableWord` spells nothing. The frames of R182 are read here all the same: `decodeFrame` is the
receive dispatcher of R179 with the CRC-8 check of R183, and `encodeFrame` writes the frame that a
partner sends. -/

namespace Sys2Proof

/-- The command that a word spells by the operation table's bits: the table gives no row any bits. -/
def decodeTableWord (_nbits _w : Nat) : Option Instr := none

/-- The number that bytes spell, most significant first (R182). -/
def beNat (bs : List Byte) : Nat := bs.foldl (fun acc b => acc * 256 + b.toNat) 0

/-- `n` as `k` bytes, most significant first (R182). -/
def toBytes : Nat → Nat → List Byte
  | 0, _ => []
  | k + 1, n => toBytes k (n / 256) ++ [BitVec.ofNat 8 n]

/-- Two's complement reading of a field of `k` bytes (R182). -/
def signed (k : Nat) (n : Nat) : Int := if n < 256 ^ k / 2 then n else (n : Int) - (256 ^ k : Nat)

/-- Two's complement writing of a field of `k` bytes (R182). -/
def unsigned (k : Nat) (v : Int) : Nat := (v % (256 ^ k : Nat)).toNat

/-- The signed number that bytes spell. -/
def beInt (bs : List Byte) : Int := signed bs.length (beNat bs)

/-- One bit of the CRC-8 of R183: polynomial x^8 + x^5 + x^4 + 1, most significant bit first. -/
def crc8Bit (c : Byte) : Byte := if c.msb then (c <<< 1) ^^^ 0x31#8 else c <<< 1

/-- One byte into the CRC-8 of R183. -/
def crc8Byte (c b : Byte) : Byte := Nat.repeat crc8Bit 8 (c ^^^ b)

/-- The CRC-8 of R183 over the identifier as two bytes, high byte first, and data bytes 0 to 6. -/
def crc8 (id : Nat) (data : List Byte) : Byte :=
  (toBytes 2 id ++ data.take 7).foldl crc8Byte 0

/-- The node of a cab-link master. -/
def Master.node : Master → Nat
  | .cdt => 5
  | .tg => 6
  | .st => 7

/-- The cab-link master at a node. -/
def masterOfNode : Nat → Option Master
  | 5 => some .cdt
  | 6 => some .tg
  | 7 => some .st
  | _ => none

/-- The sensor node of a channel (R17). -/
def Channel.node : Channel → Nat
  | .boomAng => 8
  | .stickAng => 9
  | .bucketAng => 10
  | .upperTilt => 11
  | .slewEnc => 12
  | .boomPress => 13

/-- The channel bound to a sensor node (R17). -/
def channelOfNode : Nat → Option Channel
  | 8 => some .boomAng
  | 9 => some .stickAng
  | 10 => some .bucketAng
  | 11 => some .upperTilt
  | 12 => some .slewEnc
  | 13 => some .boomPress
  | _ => none

/-- The node of an engine controller. -/
def Engine.node : Engine → Nat
  | .e1 => 3
  | .e2 => 4

/-- Whether a link's dispatcher takes a frame of this kind, node and data length (R179, lengths of R182). -/
def frameTaken (l : Link) (kind node len : Nat) : Bool :=
  match l with
  | .a => (kind == 4 && node == 2 && decide (6 ≤ len)) || (kind == 5 && node == 2 && decide (8 ≤ len)) ||
      (kind == 7 && (node == 3 || node == 4) && decide (8 ≤ len))
  | .b => kind == 40 && decide (5 ≤ node) && decide (node ≤ 7) && decide (8 ≤ len)
  | .s => kind == 8 && decide (8 ≤ node) && decide (node ≤ 13) && decide (7 ≤ len)

/-- Byte `n` of a frame's data, as a number. -/
def byteAt (d : List Byte) (n : Nat) : Nat := (d.getD n 0).toNat

/-- Bytes `n .. n+k-1` of a frame's data. -/
def bytesAt (d : List Byte) (n k : Nat) : List Byte := (d.drop n).take k

/-- The command that a READ frame is (R185): a kind outside 0..9 is no record, and stands as an unknown
command with the code of READ. -/
def decodeRead (m : Master) (kind index : Nat) : Instr :=
  match kind with
  | 0 => .readStatus m
  | 1 => .readPose m
  | 2 => .readChannels m
  | 3 => .readFenceSet m index
  | 4 => .readItem m index
  | 5 => .readMeters m
  | 6 => .readOpenTruck m
  | 7 => .readCompletedTrucks m
  | 8 => .readSettings m
  | 9 => .readCalibration m
  | _ => .unknownCommand m 1

/-- The command that a COMMAND frame with a right CRC is (R182, table of commands and arguments). -/
def decodeCommand (m : Master) (d : List Byte) : Instr :=
  match byteAt d 0 with
  | 1 => decodeRead m (byteAt d 1) (byteAt d 2)
  | 2 => .tokenRequest m (byteAt d 1)
  | 3 => .tokenRelease m
  | 4 => .stageSet m (byteAt d 1)
  | 5 => .stageItem m (byteAt d 1)
  | 6 => .stageCal m
  | 7 => .fenceWriteFirst m (byteAt d 1) (byteAt d 2) (byteAt d 3) (beNat (bytesAt d 4 2)) (byteAt d 6)
  | 8 => .fenceWriteSecond m (byteAt d 1) (beNat (bytesAt d 2 2)) (beNat (bytesAt d 4 2))
  | 9 => .fenceSector m (byteAt d 1) (byteAt d 2) (beNat (bytesAt d 3 2)) (beNat (bytesAt d 5 2))
  | 10 => .fenceClear m (byteAt d 1)
  | 11 => if byteAt d 1 = 255 then .itemWriteClear m else .itemWrite m (byteAt d 1) (beInt (bytesAt d 2 4))
  | 12 => .calWrite m (byteAt d 1) (beInt (bytesAt d 2 4))
  | 13 => .commit m (beNat (bytesAt d 1 2))
  | 14 => .abandon m
  | 15 => if byteAt d 1 = 4 then .selectSetNone m else .selectSet m (byteAt d 1)
  | 16 => .lockFences m
  | 17 => .unlockFences m
  | 18 => .enterService m
  | 19 => .exitService m
  | 20 => .partReset m
  | 21 => .engineReset m
  | 22 => .clearViolations m
  | 23 => .clearFaults m
  | 24 => .setGrade m (beInt (bytesAt d 1 2)) (beInt (bytesAt d 3 2)) (beInt (bytesAt d 5 2))
  | 25 => .setGradeStop m (byteAt d 1) (beNat (bytesAt d 2 2))
  | 26 => .clearGrade m
  | 27 => .truckDone m
  | 28 => .ackItem m (byteAt d 1)
  | 29 => .serviceDone m (byteAt d 1)
  | 30 => .extendItem m (byteAt d 1)
  | 31 => .meterWrite m (byteAt d 1) (beNat (bytesAt d 2 4))
  | 32 => .setClock m (beNat (bytesAt d 1 4))
  | 33 => .selectMode m (byteAt d 1)
  | 34 => .setIdle m (byteAt d 1) (byteAt d 2)
  | 35 => .setTruckTarget m (beNat (bytesAt d 1 4))
  | 36 => .idleHold m
  | code => .unknownCommand m code

/-- The command that a frame taken from a link is, by its kind and source node: PVC_STATE, PVC_LEVERS,
ENGINE_STATUS, SENSOR_SAMPLE, or a COMMAND after its CRC-8 check (R179, R182, R183). A temperature is sent
as degrees + 40. -/
def decodeTaken (kind node : Nat) (d : List Byte) : Option Instr :=
  match kind with
  | 4 => some (.pvcState (beNat (bytesAt d 0 2)) (byteAt d 2) ((byteAt d 3 : Int) - 40) (byteAt d 4)
      (byteAt d 5 % 2 == 1) (byteAt d 5 / 2 % 2 == 1))
  | 5 => some (.pvcLevers ⟨byteAt d 0, byteAt d 1, byteAt d 2, byteAt d 3, byteAt d 4, byteAt d 5,
      byteAt d 6, byteAt d 7⟩)
  | 7 => some (.engineStatus (if node = 3 then .e1 else .e2) (byteAt d 0) (beNat (bytesAt d 1 2))
      ((byteAt d 3 : Int) - 40) (beNat (bytesAt d 4 2)) (byteAt d 6) (byteAt d 7 % 2 == 1))
  | 8 => (channelOfNode node).map fun ch =>
      .sensorSample ch (beInt (bytesAt d 0 3)) (beInt (bytesAt d 3 3)) (byteAt d 6 % 16) (byteAt d 6 / 128 == 1)
  | 40 => (masterOfNode node).map fun m =>
      if crc8 (kind * 16 + node) d = d.getD 7 0 then decodeCommand m d else .commandCrcError
  | _ => none

/-- The receive dispatcher of R179: the command that a frame with identifier `id` on link `l` is. The
identifier is the kind times 16 plus the source node; a frame the dispatcher does not take is discarded. -/
def decodeFrame (l : Link) (id : Nat) (d : List Byte) : Instr :=
  let discarded := Instr.frameDiscarded l (id / 16) (id % 16) d.length
  if frameTaken l (id / 16) (id % 16) d.length then (decodeTaken (id / 16) (id % 16) d).getD discarded
  else discarded

/-- A COMMAND frame of a master (R182): code, arguments filled with 0 to six bytes, CRC-8. -/
def commandFrame (m : Master) (code : Nat) (args : List Byte) : Link × Nat × List Byte :=
  let id := 40 * 16 + m.node
  let head := BitVec.ofNat 8 code :: (args ++ List.replicate (6 - args.length) 0)
  (.b, id, head ++ [crc8 id head])

/-- A bit as the number 0 or 1. -/
def bit (b : Bool) : Nat := if b then 1 else 0

/-- A READ frame. -/
def readFrame (m : Master) (kind index : Nat) : Link × Nat × List Byte :=
  commandFrame m 1 (toBytes 1 kind ++ toBytes 1 index)

/-- The frame a partner sends for a command, where the command is a frame whose layout R182 gives: link,
identifier, data bytes. -/
def encodeFrame : Instr → Option (Link × Nat × List Byte)
  | .sensorSample ch v1 v2 counter flag => some (.s, 8 * 16 + ch.node,
      toBytes 3 (unsigned 3 v1) ++ toBytes 3 (unsigned 3 v2) ++ toBytes 1 (counter + 128 * bit flag))
  | .pvcState demand lockout oil applied g1 g2 => some (.a, 4 * 16 + 2,
      toBytes 2 demand ++ toBytes 1 lockout ++ toBytes 1 (oil + 40).toNat ++ toBytes 1 applied ++
        toBytes 1 (bit g1 + 2 * bit g2))
  | .pvcLevers d => some (.a, 5 * 16 + 2,
      [d.boomUp, d.boomDown, d.stickIn, d.stickOut, d.bucketCurl, d.bucketDump, d.slewLeft, d.slewRight].map
        (BitVec.ofNat 8))
  | .engineStatus e code speed coolant fuel load noStop => some (.a, 7 * 16 + e.node,
      toBytes 1 code ++ toBytes 2 speed ++ toBytes 1 (coolant + 40).toNat ++ toBytes 2 fuel ++ toBytes 1 load ++
        toBytes 1 (bit noStop))
  | .unknownCommand m code => some (if code = 1 then readFrame m 255 0 else commandFrame m code [])
  | .readStatus m => some (readFrame m 0 0)
  | .readPose m => some (readFrame m 1 0)
  | .readChannels m => some (readFrame m 2 0)
  | .readFenceSet m n => some (readFrame m 3 n)
  | .readItem m k => some (readFrame m 4 k)
  | .readMeters m => some (readFrame m 5 0)
  | .readOpenTruck m => some (readFrame m 6 0)
  | .readCompletedTrucks m => some (readFrame m 7 0)
  | .readSettings m => some (readFrame m 8 0)
  | .readCalibration m => some (readFrame m 9 0)
  | .tokenRequest m policy => some (commandFrame m 2 (toBytes 1 policy))
  | .tokenRelease m => some (commandFrame m 3 [])
  | .stageSet m n => some (commandFrame m 4 (toBytes 1 n))
  | .stageItem m k => some (commandFrame m 5 (toBytes 1 k))
  | .stageCal m => some (commandFrame m 6 [])
  | .fenceWriteFirst m i kind en margin creep =>
      some (commandFrame m 7 (toBytes 1 i ++ toBytes 1 kind ++ toBytes 1 en ++ toBytes 2 margin ++ toBytes 1 creep))
  | .fenceWriteSecond m i w1 w2 => some (commandFrame m 8 (toBytes 1 i ++ toBytes 2 w1 ++ toBytes 2 w2))
  | .fenceSector m i form a b =>
      some (commandFrame m 9 (toBytes 1 i ++ toBytes 1 form ++ toBytes 2 a ++ toBytes 2 b))
  | .fenceClear m i => some (commandFrame m 10 (toBytes 1 i))
  | .itemWrite m field v => some (commandFrame m 11 (toBytes 1 field ++ toBytes 4 (unsigned 4 v)))
  | .itemWriteClear m => some (commandFrame m 11 (toBytes 1 255))
  | .calWrite m field v => some (commandFrame m 12 (toBytes 1 field ++ toBytes 4 (unsigned 4 v)))
  | .commit m crc => some (commandFrame m 13 (toBytes 2 crc))
  | .abandon m => some (commandFrame m 14 [])
  | .selectSet m n => some (commandFrame m 15 (toBytes 1 n))
  | .selectSetNone m => some (commandFrame m 15 (toBytes 1 4))
  | .lockFences m => some (commandFrame m 16 [])
  | .unlockFences m => some (commandFrame m 17 [])
  | .enterService m => some (commandFrame m 18 [])
  | .exitService m => some (commandFrame m 19 [])
  | .partReset m => some (commandFrame m 20 [])
  | .engineReset m => some (commandFrame m 21 [])
  | .clearViolations m => some (commandFrame m 22 [])
  | .clearFaults m => some (commandFrame m 23 [])
  | .setGrade m z sl x => some (commandFrame m 24
      (toBytes 2 (unsigned 2 z) ++ toBytes 2 (unsigned 2 sl) ++ toBytes 2 (unsigned 2 x)))
  | .setGradeStop m stop margin => some (commandFrame m 25 (toBytes 1 stop ++ toBytes 2 margin))
  | .clearGrade m => some (commandFrame m 26 [])
  | .truckDone m => some (commandFrame m 27 [])
  | .ackItem m k => some (commandFrame m 28 (toBytes 1 k))
  | .serviceDone m k => some (commandFrame m 29 (toBytes 1 k))
  | .extendItem m k => some (commandFrame m 30 (toBytes 1 k))
  | .meterWrite m code v => some (commandFrame m 31 (toBytes 1 code ++ toBytes 4 v))
  | .setClock m v => some (commandFrame m 32 (toBytes 4 v))
  | .selectMode m code => some (commandFrame m 33 (toBytes 1 code))
  | .setIdle m a b => some (commandFrame m 34 (toBytes 1 a ++ toBytes 1 b))
  | .setTruckTarget m kg => some (commandFrame m 35 (toBytes 4 kg))
  | .idleHold m => some (commandFrame m 36 [])
  | .mainSupplyApplied | .supplyLow | .supplyRecovered | .resetLineAsserted | .resetLineReleased
  | .keyLevelChange _ | .keyOffTaken | .keyOnTaken | .loadingComplete | .stSilenceTimeout | .enterSleep
  | .partResetTakesEffect | .stalenessMark _ | .failureMark _ | .poseTimer | .poseReportTimer
  | .leverStalenessMark | .frameDiscarded _ _ _ _ | .grantRefresh | .grantUnconfirmed | .responseFailTimeout _
  | .engineSilence _ | .engineRequestRefresh _ | .startTimeout _ | .joinRefused _ | .leaveRefused _
  | .cooldownEnd _ | .stopTimeout _ | .retryWaitEnd _ | .joinHoldReached | .leaveHoldReached
  | .autoIdleTimeout | .lockoutTimeout | .shutdownDelayEnd | .countdownStep | .countdownEnd | .fuelTimer
  | .feedTimer | .saveTimer | .reminderTimer | .clockSecond | .pvcSilent | .tokenSilence | .frameTransmit _
  | .regionWriteComplete | .regionWriteFail | .commandCrcError | .backupSupplyFailed
  | .noticeSpacingElapsed => none

end Sys2Proof
end

