-- ==== Sys2Proof/Machine/State.lean ====
section
/-! DEFINITION. The state of the PD460 as plain data: one structure per block (00 section 3), the retained
store, the supplies and lines, the calendar clock, and the queue of the commands that wait. With it the
values that a reset gives each block, and the state right after reset. -/

namespace Sys2Proof.Machine

/-! ## Refusals and faults -/

/-- Why a step can stop with a fault: never. Every command of the table ends in a next state, so there is no
constructor (safe: nothing is cut off by a stop). -/
inductive Fault
deriving DecidableEq, Repr

/-- Why a command can be refused by the model. -/
inductive Refusal where
  /-- Raised by an arm of `exec` whose command has no meaning yet; no arm raises it. Safe. -/
  | notModelled (mnemonic : String)
deriving DecidableEq, Repr

/-! ## Mode Controller (R1) -/

/-- The part modes, in the order of their codes (R182). -/
inductive PartMode where
  | start | parked | working | service | halt | closing | sleep
deriving DecidableEq, Repr, Inhabited

/-- The causes of a reset (R13). -/
inductive ResetCause where
  | powerOn | backupLost | keyWake | supplyLow | resetLine | serviceReset
deriving DecidableEq, Repr, Inhabited

/-- The calibration status (R1). -/
inductive CalStatus where
  | valid | invalid
deriving DecidableEq, Repr, Inhabited

/-- The mode record of R1. A running timer holds the part time at which it started. -/
@[ext]
structure Mdc where
  mode : PartMode
  cause : ResetCause
  keyState : KeyLevel
  lockout : Lockout
  calStatus : CalStatus
  stSilence : Option Millis
  resetPending : Bool
  /-- R11: SLEEP is due once this many of the waiting replies have been handed over. -/
  sleepWait : Option Nat
  /-- R14: the reset is due once this many of the waiting replies have been handed over. -/
  resetWait : Option Nat
deriving DecidableEq, Repr

/-- The reset values of R1. -/
def Mdc.reset (mode : PartMode) (cause : ResetCause) (key : KeyLevel) : Mdc :=
  { mode, cause, keyState := key, lockout := .engaged, calStatus := .invalid, stSilence := none,
    resetPending := false, sleepWait := none, resetWait := none }

/-! ## Sensor Intake Unit (R17, R18) -/

/-- The channel states of section 2.2. -/
inductive ChState where
  | absent | valid | suspect | stale | failed
deriving DecidableEq, Repr, Inhabited

/-- The value or values of a sample; a one-value channel has 0 as value 2. -/
structure Reading where
  v1 : Int
  v2 : Int
deriving DecidableEq, Repr, Inhabited

/-- A channel record (R18). `markFrom` is the part time the staleness mark is measured from (R28): the
accepted time, or the entry to SUSPECT from STALE. -/
@[ext]
structure ChannelRec where
  state : ChState
  accepted : Option Reading
  suspect : Option Reading
  counter : Option Nat
  acceptedAt : Option Millis
  markFrom : Option Millis
  suspectRun : Nat
  flagRun : Nat
  recoveryRun : Nat
deriving DecidableEq, Repr, Inhabited

/-- The reset values of R18. -/
def ChannelRec.reset : ChannelRec :=
  { state := .absent, accepted := none, suspect := none, counter := none, acceptedAt := none,
    markFrom := none, suspectRun := 0, flagRun := 0, recoveryRun := 0 }

/-- The channel table of R17, in its fixed order. -/
@[ext]
structure ChannelTable where
  boomAng : ChannelRec
  stickAng : ChannelRec
  bucketAng : ChannelRec
  upperTilt : ChannelRec
  slewEnc : ChannelRec
  boomPress : ChannelRec
deriving DecidableEq, Repr

/-- Every channel ABSENT (R18, R35). -/
def ChannelTable.reset : ChannelTable :=
  ⟨.reset, .reset, .reset, .reset, .reset, .reset⟩

/-! ## Geometry Unit (R36 to R57) -/

/-- A validity part of a pose (R47). -/
inductive Part where
  | valid | held | invalid
deriving DecidableEq, Repr, Inhabited

/-- The nine coordinate fields of a pose, in mm; they are present or absent together (R44 to R46). -/
structure Coords where
  xp : Int
  zp : Int
  x1 : Int
  z1 : Int
  x3 : Int
  z3 : Int
  h : Int
  reach : Int
  depth : Int
deriving DecidableEq, Repr

/-- The grade floor that a pose carries (R56); its creep cap is the constant 30 %. -/
structure GradeFloor where
  limit : Option Int
  margin : Nat
deriving DecidableEq, Repr

/-- The pose record (R51). Before the first pose after a reset `seq` is 0. -/
structure Pose where
  seq : Nat
  time : Option Millis
  plane : Part
  slew : Part
  boom : Option Int
  stick : Option Int
  bucket : Option Int
  psi : Option Int
  roll : Option Int
  sigma : Option Int
  coords : Option Coords
  overrange : Bool
  boomRate : Option Int
  stickRate : Option Int
  bucketRate : Option Int
  slewRate : Option Int
  deviation : Option Int
  gradeFloor : Option GradeFloor
deriving DecidableEq, Repr

/-- No pose (R57). -/
def Pose.reset : Pose :=
  { seq := 0, time := none, plane := .invalid, slew := .invalid, boom := none, stick := none, bucket := none,
    psi := none, roll := none, sigma := none, coords := none, overrange := false, boomRate := none,
    stickRate := none, bucketRate := none, slewRate := none, deviation := none, gradeFloor := none }

/-- What the rate memory holds for one channel (R49): the state and the value read at the previous expiry. -/
structure RateRead where
  state : ChState
  value : Option Int
deriving DecidableEq, Repr

/-- The rate memory for boom, stick, bucket and slew (R49). -/
structure RateMem where
  boom : RateRead
  stick : RateRead
  bucket : RateRead
  slew : RateRead
deriving DecidableEq, Repr

/-- The grade target record (R53). -/
structure Grade where
  zRef : Int
  slope : Int
  xRef : Int
  stop : Bool
  margin : Nat
deriving DecidableEq, Repr

/-- The Geometry Unit. -/
@[ext]
structure Gmu where
  poseTimer : Option Millis
  pose : Pose
  rateMem : Option RateMem
  grade : Option Grade
deriving DecidableEq, Repr

/-- The reset values of R57; `t` is the end of the reset, or none where the timers do not run. -/
def Gmu.reset (t : Option Millis) : Gmu := { poseTimer := t, pose := .reset, rateMem := none, grade := none }

/-! ## Payload Unit (R58) -/

/-- The pass detector (section 4.2). -/
inductive Detector where
  | ready | carry | return
deriving DecidableEq, Repr, Inhabited

/-- A weigh sample: mass in kg and overload mark (R58, R68). -/
structure Sample where
  mass : Nat
  overload : Bool
deriving DecidableEq, Repr

/-- A pass record (R58); the payload is absent for an UNWEIGHED pass. -/
structure Pass where
  number : Nat
  payload : Option Nat
  overload : Bool
  carryMs : Nat
  fuelAtDump : Nat
deriving DecidableEq, Repr

/-- The open truck (R58). -/
structure Truck where
  number : Nat
  target : Option Nat
  passes : List Pass
  total : Nat
  fuelMark : Nat
  overload : Bool
deriving DecidableEq, Repr

/-- A truck summary (R58). -/
structure TruckSummary where
  number : Nat
  passCount : Nat
  total : Nat
  fuelUsed : Nat
  fuelPerTonne : Option Nat
  overload : Bool
  closedAt : Option Nat
deriving DecidableEq, Repr

/-- The Payload Unit's records (R58). -/
structure Plu where
  detector : Detector
  carryStart : Option Millis
  carryFuel : Option Nat
  samples : List Sample
  truck : Option Truck
  completed : List TruckSummary
  nextNumber : Nat
deriving DecidableEq, Repr

/-- The reset values of R58, with the completed-truck list not yet loaded. -/
def Plu.reset : Plu :=
  { detector := .ready, carryStart := none, carryFuel := none, samples := [], truck := none, completed := [],
    nextNumber := 1 }

/-! ## Fences (R80, R81) -/

/-- The kinds of planar fence. -/
inductive PlanarKind where
  | ceiling | floor | reach
deriving DecidableEq, Repr

/-- A slew sector, counter-clockwise from `first`, included, to `last`, excluded (cd). -/
structure Sector where
  first : Nat
  last : Nat
deriving DecidableEq, Repr

/-- What a fence limits: a planar fence has a limit in mm and perhaps an applicability sector, a SECTOR fence
has its forbidden sector (R80). -/
inductive FenceShape where
  | planar (kind : PlanarKind) (limit : Int) (applies : Option Sector)
  | sector (range : Sector)
deriving DecidableEq, Repr

/-- A fence record (R80). -/
structure Fence where
  shape : FenceShape
  enabled : Bool
  margin : Nat
  creep : Nat
deriving DecidableEq, Repr

/-- A fence set: eight entries, each EMPTY (none) or a fence record (R80, R81). -/
abbrev FenceSet := Vector (Option Fence) 8

/-- The live fence state, which is the content of the FENCES region (R81). -/
structure FenceState where
  sets : Vector FenceSet 4
  active : Option (Fin 4)
  lock : Bool
deriving DecidableEq, Repr

/-- The fence state of a bad FENCES region (R81): all EMPTY, NONE, locked. -/
def FenceState.empty : FenceState :=
  { sets := Vector.replicate 4 (Vector.replicate 8 none), active := none, lock := true }

/-! ## Envelope Unit (R103, R104, R117 to R121) -/

/-- A row of the cap table (R103). -/
@[ext]
structure CapRow where
  fence : Nat
  slewCreep : Nat
  dataLost : Nat
  hold : Bool
  computed : Nat
  granted : Nat
deriving DecidableEq, Repr, Inhabited

/-- The reset values of R103. -/
def CapRow.reset : CapRow :=
  { fence := 0, slewCreep := 100, dataLost := 100, hold := false, computed := 0, granted := 0 }

/-- The lever record (R104). -/
structure Levers where
  demands : Option (PerFn Nat)
  arrival : Option Millis
  fresh : Bool
deriving DecidableEq, Repr

/-- The power modes, in the order of their ranks (R156). -/
inductive PowerMode where
  | warmup | economy | standard | peak
deriving DecidableEq, Repr, Inhabited

/-- The grant record (R117). -/
structure Grant where
  seq : Nat
  caps : PerFn Nat
  limit : Nat
  group1 : Bool
  group2 : Bool
  power : PowerMode
  mode : PartMode
  plane : Part
  slew : Part
deriving DecidableEq, Repr

/-- The reset values of R117. -/
def Grant.reset : Grant :=
  { seq := 0, caps := ⟨0, 0, 0, 0, 0, 0, 0, 0⟩, limit := 0, group1 := false, group2 := false,
    power := .warmup, mode := .start, plane := .invalid, slew := .invalid }

/-- A response monitor (R121). -/
@[ext]
structure Monitor where
  armed : Bool
  armTime : Option Millis
  armSeq : Option Nat
  lastResponse : Option Nat
  violations : Nat
deriving DecidableEq, Repr, Inhabited

/-- A monitor after reset (R121), its count not yet restored. -/
def Monitor.reset : Monitor :=
  { armed := false, armTime := none, armSeq := none, lastResponse := none, violations := 0 }

/-- The Envelope Unit. `outstanding` holds the sequence and issue time of each grant not yet acknowledged,
oldest first (R119). -/
@[ext]
structure Evu where
  fences : FenceState
  dataLost : Bool
  caps : PerFn CapRow
  levers : Levers
  grant : Grant
  refresh : Option Millis
  outstanding : List (Nat × Millis)
  unconfirmed : Bool
  monitors : PerFn Monitor
deriving DecidableEq, Repr

/-- The reset values of R103, R104, R117 to R121: grant 0 is issued at the end of the reset. The lever record's arrival
time, for which no rule gives a reset value, is absent (DESIGN CHOICE, log 34). -/
def Evu.reset (t : Option Millis) : Evu :=
  { fences := .empty, dataLost := false,
    caps := ⟨.reset, .reset, .reset, .reset, .reset, .reset, .reset, .reset⟩,
    levers := { demands := none, arrival := none, fresh := false }, grant := .reset, refresh := t,
    outstanding := match t with | some n => [(0, n)] | none => [], unconfirmed := false,
    monitors := ⟨.reset, .reset, .reset, .reset, .reset, .reset, .reset, .reset⟩ }

/-! ## Engine Economy Unit (R127, R145) -/

/-- A slot's part in the engine set (R128). -/
inductive Role where
  | lead | second
deriving DecidableEq, Repr, Inhabited

/-- The slot states, in the order of their codes (R132). -/
inductive SlotState where
  | unused | stopped | starting | warming | ready | joining | online | leaving | cooldown | stopping | faulted
deriving DecidableEq, Repr, Inhabited

/-- The engine state of an ENGINE_STATUS, in the order of its codes (R182). -/
inductive RunState where
  | stopped | cranking | running | fault
deriving DecidableEq, Repr, Inhabited

/-- Why a slot entered FAULTED (R127). -/
inductive FaultCause where
  | faultStatus | silent | startTimeout | stopTimeout
deriving DecidableEq, Repr, Inhabited

/-- The content of an ENGINE_STATUS (R127). -/
structure EngineStatus where
  state : RunState
  speed : Nat
  coolant : Int
  fuelRate : Nat
  load : Nat
  noStop : Bool
deriving DecidableEq, Repr

/-- What an ENGINE_REQUEST asks, in the order of its codes (R131, R182). -/
inductive EngineAsk where
  | none | start | stop
deriving DecidableEq, Repr, Inhabited

/-- The ENGINE_REQUEST kept for a slot (R131). -/
structure EngineRequest where
  ask : EngineAsk
  speed : Nat
deriving DecidableEq, Repr

/-- An engine slot (R127). The slot timer's limit follows the state. -/
@[ext]
structure Slot where
  role : Role
  state : SlotState
  timer : Option Millis
  retry : Option Millis
  silence : Option Millis
  status : Option EngineStatus
  cause : Option FaultCause
  request : Option EngineRequest
  requestTimer : Option Millis
deriving DecidableEq, Repr

/-- The reset values of R127; the first request, with setpoint 0 while the calibration status is INVALID
(R155), is handed over at the end of the reset (R131). -/
def Slot.reset (role : Role) (t : Option Millis) : Slot :=
  { role, state := .stopped, timer := none, retry := none, silence := t, status := none, cause := none,
    request := t.map fun _ => { ask := .none, speed := 0 }, requestTimer := t }

/-- A hold timer (R141, R142): stopped, running, or running and taken to have reached its limit. -/
inductive Hold where
  | stopped
  | running (since : Millis)
  | reached (since : Millis)
deriving DecidableEq, Repr

/-- The idle ladder, in the order of its codes (R146). -/
inductive Ladder where
  | work | autoIdle | lowIdle | shutdownWarning | shutDown
deriving DecidableEq, Repr, Inhabited

/-- The shut-down countdown (R150): its start, and the seconds last shown; 0 means held at 0. -/
structure Countdown where
  since : Millis
  shown : Nat
deriving DecidableEq, Repr

/-- The live SETTINGS (R145, R191): a truck target of 0 is no target. -/
structure Settings where
  mode : PowerMode
  autoIdle : Nat
  shutdown : Nat
  truckTarget : Nat
deriving DecidableEq, Repr

/-- The defaults of R145 and R193. -/
def Settings.default : Settings := { mode := .standard, autoIdle := 4, shutdown := 15, truckTarget := 0 }

/-- The Engine Economy Unit: engine slots, engine set record, economy record, live settings. -/
@[ext]
structure Eeu where
  slot1 : Slot
  slot2 : Slot
  engineCount : Nat
  accumulator : Nat
  average : Nat
  joinHold : Hold
  leaveHold : Hold
  ladder : Ladder
  autoIdle : Option Millis
  lockoutTimer : Option Millis
  shutdownDelay : Option Millis
  countdown : Option Countdown
  idleHold : Bool
  pumpDemand : Option Nat
  oilTemp : Option Int
  warmup : Bool
  effective : PowerMode
  limit : Nat
  fuelRem : Nat
  fuelTimer : Option Millis
  feedTimer : Option Millis
  settings : Settings
deriving DecidableEq, Repr

/-- The reset values of R127 and R145. -/
def Eeu.reset (t : Option Millis) : Eeu :=
  { slot1 := .reset .lead t, slot2 := .reset .second t, engineCount := 2, accumulator := 0, average := 0,
    joinHold := .stopped, leaveHold := .stopped, ladder := .work, autoIdle := none, lockoutTimer := none,
    shutdownDelay := none, countdown := none, idleHold := false, pumpDemand := none, oilTemp := none,
    warmup := true, effective := .warmup, limit := 0, fuelRem := 0, fuelTimer := t, feedTimer := t,
    settings := .default }

/-! ## Service Unit (R162, R169, R177) -/

/-- The ten meters, in the order of their codes (R162). -/
inductive Meter where
  | engine1Run | engine2Run | pumpWork | oilHeat | fuel | payload | passes | slewTravel | calendar | violations
deriving DecidableEq, Repr, Inhabited

/-- Ten values, one per meter, in code order. -/
structure PerMeter where
  engine1Run : Nat
  engine2Run : Nat
  pumpWork : Nat
  oilHeat : Nat
  fuel : Nat
  payload : Nat
  passes : Nat
  slewTravel : Nat
  calendar : Nat
  violations : Nat
deriving DecidableEq, Repr

/-- All ten at 0. -/
def PerMeter.zero : PerMeter := ⟨0, 0, 0, 0, 0, 0, 0, 0, 0, 0⟩

/-- The item states, in the order of their codes (R171). -/
inductive ItemState where
  | ok | approaching | due | overdue
deriving DecidableEq, Repr, Inhabited

/-- What an item imposes while OVERDUE, in the order of its codes (R169, R182). -/
inductive Restriction where
  | none | powerStandard | powerEconomy | singleEngine | slewCreep
deriving DecidableEq, Repr, Inhabited

/-- The fields of an item that ITEM_WRITE writes (R97, R169). -/
structure ItemDef where
  label : Nat
  meter : Meter
  interval : Nat
  lead : Nat
  grace : Nat
  lastDone : Nat
  nextDue : Nat
  restriction : Restriction
deriving DecidableEq, Repr

/-- An item record (R169). -/
structure Item where
  defn : ItemDef
  state : ItemState
  acked : Bool
  extUsed : Bool
  doneDate : Option Nat
deriving DecidableEq, Repr

/-- The item table: 32 entries, each EMPTY (none) or an item (R169). -/
abbrev ItemTable := Vector (Option Item) 32

/-- The restriction summary (R177). -/
structure Summary where
  ceiling : PowerMode
  singleEngine : Bool
  slewCreep : Bool
deriving DecidableEq, Repr

/-- No restriction. -/
def Summary.clear : Summary := { ceiling := .peak, singleEngine := false, slewCreep := false }

/-- The Service Unit. `sums` are the pending sums of R164. -/
@[ext]
structure Svu where
  loaded : Bool
  meters : PerMeter
  fuelRem : Nat
  payloadRem : Nat
  slewRem : Nat
  sums : PerMeter
  dayMark : Option Nat
  items : ItemTable
  summary : Summary
  metersLost : Bool
  saveTimer : Option Millis
  reminderTimer : Option Millis
  entrySaveBegun : Bool
deriving DecidableEq, Repr

/-- The Service Unit before loading completes (R162, R164, R177). The day mark, to which no rule gives a value then, is
absent (DESIGN CHOICE, log 34). -/
def Svu.reset : Svu :=
  { loaded := false, meters := .zero, fuelRem := 0, payloadRem := 0, slewRem := 0, sums := .zero,
    dayMark := none, items := Vector.replicate 32 none, summary := .clear, metersLost := false,
    saveTimer := none, reminderTimer := none, entrySaveBegun := false }

/-! ## Retained Store (R87, R93, R191 to R195) -/

/-- The six regions, in the order of their codes (R191). -/
inductive Region where
  | calibration | settings | fences | items | meters | trucks
deriving DecidableEq, Repr, Inhabited

/-- The calibration block: its 51 fields in the order of their CAL_WRITE codes (R192). -/
structure Calibration where
  fields : Vector Int 51
deriving DecidableEq, Repr

/-- The block of a bad CALIBRATION region (R193): commissioning defaults where a field has one, the low end of
its range otherwise. -/
def Calibration.default : Calibration :=
  ⟨#v[-2000, 0, 2000, 1000, 500,
      100, 100, 100, 100, 100, 100, 100, 100,
      1000, 0,
      0, 0, 0, 0, 0, 0, 0, 0, 0,
      0, 0, 0, 0, 0, 0, 0, 0, 0,
      -18000, 1, 100, 100,
      1000, 1000, 1000, 1000, 700, 600,
      25, 30, 600, 0, 250, 250, 250, 0]⟩

/-- The content of the METERS region (R191). -/
structure MetersContent where
  meters : PerMeter
  fuelRem : Nat
  payloadRem : Nat
  slewRem : Nat
  dayMark : Option Nat
  violations : PerFn Nat
deriving DecidableEq, Repr

/-- The METERS content of a bad region (R167). -/
def MetersContent.zero : MetersContent :=
  { meters := .zero, fuelRem := 0, payloadRem := 0, slewRem := 0, dayMark := none,
    violations := ⟨0, 0, 0, 0, 0, 0, 0, 0⟩ }

/-- Which of the two banks of a region (R192). -/
inductive BankId where
  | bank0 | bank1
deriving DecidableEq, Repr, Inhabited

/-- A bank (R192): its write count, its content and the CRC-16 stored over both. A bank never written holds none of
them. -/
structure Bank (α : Type) where
  written : Bool
  count : Nat
  content : α
  crc : BitVec 16
deriving DecidableEq, Repr

/-- The two banks of a region. `source` is the bank that supplied the region at the last loading or that the
last completed write wrote; none when neither has happened (R192). -/
structure Banks (α : Type) where
  bank0 : Bank α
  bank1 : Bank α
  source : Option BankId
deriving DecidableEq, Repr

/-- Two banks never written. -/
def Banks.blank {α : Type} (content : α) : Banks α :=
  { bank0 := { written := false, count := 0, content, crc := 0 },
    bank1 := { written := false, count := 0, content, crc := 0 }, source := none }

/-- The six regions (R191). -/
@[ext]
structure Store where
  calibration : Banks Calibration
  settings : Banks Settings
  fences : Banks FenceState
  items : Banks ItemTable
  meters : Banks MetersContent
  trucks : Banks (List TruckSummary)
deriving DecidableEq, Repr

/-- The store of a part fresh from manufacture: no region has ever been written. -/
def Store.blank : Store :=
  { calibration := .blank .default, settings := .blank .default, fences := .blank .empty,
    items := .blank (Vector.replicate 32 none), meters := .blank .zero, trucks := .blank [] }

/-- The content a write stores. -/
inductive RegionContent where
  | calibration (c : Calibration)
  | settings (c : Settings)
  | fences (c : FenceState)
  | items (c : ItemTable)
  | meters (c : MetersContent)
  | trucks (c : List TruckSummary)
deriving DecidableEq, Repr

/-- A region write in flight (R194). -/
structure RegionWrite where
  content : RegionContent
  bank : BankId
  count : Nat
  since : Millis
  carriesCommit : Bool
deriving DecidableEq, Repr

/-- How a master means to give the token back (section 5.4). -/
inductive Policy where
  | whenDone | onRequest
deriving DecidableEq, Repr, Inhabited

/-- A master with the policy of its latest accepted request: the holder, or a waiter (R87). -/
structure Claim where
  who : Master
  policy : Policy
deriving DecidableEq, Repr

/-- The staged subject with its origin (R93); an item carries its two written-marks. -/
inductive Staged where
  | fenceSet (slot : Fin 4) (entries : FenceSet)
  | item (index : Fin 32) (content : Option ItemDef) (lastDoneWritten nextDueWritten : Bool)
  | calibration (c : Calibration)
deriving DecidableEq, Repr

/-- A commit in progress (R87): the subject and the master that committed it. -/
structure Commit where
  subject : Staged
  who : Master
deriving DecidableEq, Repr

/-- The token record (R87). -/
@[ext]
structure Token where
  holder : Option Claim
  silence : Option Millis
  silenceDue : Bool
  waiting : List Claim
  staging : Option Staged
  commit : Option Commit
deriving DecidableEq, Repr

/-- The reset values of R87. -/
def Token.reset : Token :=
  { holder := none, silence := none, silenceDue := false, waiting := [], staging := none, commit := none }

/-- The volatile part of the Retained Store and the live calibration block. -/
@[ext]
structure Rts where
  cal : Calibration
  pendingSave : List Region
  inFlight : Option RegionWrite
  failed : List Region
  token : Token
deriving DecidableEq, Repr

/-- The reset values of R87, R194 and R195. -/
def Rts.reset : Rts :=
  { cal := .default, pendingSave := [], inFlight := none, failed := [], token := .reset }

/-! ## Link Controller (R181 to R190) -/

/-- Severities, from lowest to highest (00 section 5.4). -/
inductive Severity where
  | info | advise | warn | fault
deriving DecidableEq, Repr, Inhabited

/-- Notice kinds, in the order of their codes 1 to 30 (R182). -/
inductive NoticeKind where
  | modeChange | sensorState | poseValidity | passWeighed | targetReached | lastPass | truckClosed | activeSet
  | fenceLock | fenceDataLost | tokenLost | tokenGranted | recordCommitted | grantUnconfirmed | responseLate
  | responseFail | engineSlot | startFailed | joinRefused | leaveRefused | groupDropped | idleState
  | shutdownWarning | powerMode | itemState | restriction | metersLost | itemsLost | pvcSilent | storeError
deriving DecidableEq, Repr, Inhabited

/-- An entry of the notice queue (R188). The value is absent where the owning rule states none. -/
structure Notice where
  kind : NoticeKind
  subject : Nat
  severity : Severity
  value : Option Nat
  stamp : Option Nat
deriving DecidableEq, Repr

/-- Reply results, in the order of their codes (R182). -/
inductive ReplyResult where
  | accepted | acceptedClamped | refusedState | refusedRole | refusedToken | refusedLock | refusedRange
  | refusedBusy | crcMismatch | storeFailed
deriving DecidableEq, Repr, Inhabited

/-- A reply in the reply queue (R183): what the REPLY frame carries (the detail absent where the owning rule
states none), the record content for READ, and how many of its frames have been handed over. -/
structure Reply where
  code : Nat
  result : ReplyResult
  detail : Option Int
  dest : Master
  content : List Byte
  sent : Nat
deriving DecidableEq, Repr

/-- The frames the part sends, by their fields; `TxFrame.bytes` gives the layout of R182. -/
inductive TxFrame where
  | grantCaps (seq : Nat) (caps : PerFn Nat)
  | grantPower (g : Grant)
  | engineRequest (e : Engine) (r : EngineRequest)
  | poseReport0 (p : Pose)
  | poseReport1 (p : Pose)
  | notice (n : Notice)
  | reply (code : Nat) (result : ReplyResult) (detail : Option Int) (dest : Master)
  | record (dest : Master) (index count : Nat) (content : List Byte)
deriving DecidableEq, Repr

/-- The holder's half-write (R184): the arguments of the first frame of FENCE_WRITE. -/
structure HalfWrite where
  index : Nat
  kind : Nat
  enabled : Bool
  margin : Nat
  creep : Nat
deriving DecidableEq, Repr

/-- The conditions that can latch a fault (R190). -/
inductive Condition where
  | storeError | fenceDataLost | poseInvalid | grantUnconfirmed | pvcSilent | responseFail | engineFault
  | itemOverdue
deriving DecidableEq, Repr, Inhabited

/-- The Link Controller. -/
@[ext]
structure Lnc where
  ctlA : Option TxFrame
  ctlB : Option TxFrame
  ctlS : Option TxFrame
  rateA : Nat
  rateB : Nat
  rateS : Nat
  txGrant : List TxFrame
  txReq1 : Option TxFrame
  txReq2 : Option TxFrame
  txPose : List TxFrame
  replies : List Reply
  half : Option HalfWrite
  notices : List Notice
  lastNotice : Option Millis
  pvcTimer : Option Millis
  pvcSilent : Bool
  poseReport : Option Millis
  latch : List Condition
  commandCrc : Bool
  commandDropped : Bool
  noticeOverflow : Bool
deriving DecidableEq, Repr

/-- The buffers, queues, latch and flags at reset (R181, R188 to R190), before anything is queued. The controllers are empty
too: a frame handed over and not yet transmitted is lost (DESIGN CHOICE, log 40). -/
def Lnc.reset (t : Option Millis) (rateA rateB rateS : Nat) : Lnc :=
  { ctlA := none, ctlB := none, ctlS := none, rateA, rateB, rateS, txGrant := [], txReq1 := none,
    txReq2 := none, txPose := [], replies := [], half := none, notices := [], lastNotice := none,
    pvcTimer := t, pvcSilent := false, poseReport := t, latch := [], commandCrc := false,
    commandDropped := false, noticeOverflow := false }

/-! ## Supplies, lines, clock, and the whole -/

/-- The main supply, the reset line and the KEY input (R3, R12, R13). -/
@[ext]
structure Power where
  mainGood : Bool
  resetLine : Bool
  keyLevel : KeyLevel
  keyTimer : Option Millis
deriving DecidableEq, Repr

/-- The calendar clock (R196): seconds, absent while invalid; `mark` is the part time of its last whole
second. -/
@[ext]
structure Clock where
  time : Option Nat
  mark : Millis
deriving DecidableEq, Repr

/-- The whole state. `pending` is the queue of the commands that wait, first in first out; `now` is part time;
`draws` counts the free values drawn. -/
@[ext]
structure State where
  pending : List Instr
  now : Millis
  draws : Nat
  power : Power
  clock : Clock
  store : Store
  mdc : Mdc
  siu : ChannelTable
  gmu : Gmu
  plu : Plu
  evu : Evu
  eeu : Eeu
  svu : Svu
  rts : Rts
  lnc : Lnc
deriving DecidableEq, Repr

/-- The state right after reset: the end of the first power-on of a part fresh from manufacture, its key on
and its calendar clock not yet set (a BACKUP_LOST reset; log 4). Grant 0, the two engine requests and the
MODE_CHANGE notice have been handed to the links, and the free controllers have taken the first frames. -/
def State.reset : State :=
  { pending := [], now := 0, draws := 0,
    power := { mainGood := true, resetLine := false, keyLevel := .on, keyTimer := none },
    clock := { time := none, mark := 0 },
    store := .blank,
    mdc := .reset .start .backupLost .on,
    siu := .reset, gmu := .reset (some 0), plu := .reset, evu := .reset (some 0), eeu := .reset (some 0),
    svu := .reset, rts := .reset,
    lnc := { Lnc.reset (some 0) 250 250 250 with
      ctlA := some (.grantCaps 0 Grant.reset.caps),
      txGrant := [.grantPower .reset],
      txReq1 := some (.engineRequest .e1 { ask := .none, speed := 0 }),
      txReq2 := some (.engineRequest .e2 { ask := .none, speed := 0 }),
      ctlB := some (.notice { kind := .modeChange, subject := 0, severity := .info, value := some 0, stamp := none }),
      lastNotice := some 0 } }

end Sys2Proof.Machine
end

