-- ==== Sys2Proof/Machine/Arith.lean ====
section
/-! DEFINITION. The arithmetic words of the manual (00 section 5.3), angles (00 section 5.2), the scaled sine
of R39, the table interpolation of R66, the CRC-16 of R99. -/

namespace Sys2Proof.Machine

/-- The quotient `p / q` rounded to the nearest integer, a half going away from zero (R40, R55, R68). -/
def roundDiv (p : Int) (q : Nat) : Int :=
  if 0 ≤ p then (p + (q / 2 : Nat)) / q else -((-p + (q / 2 : Nat)) / q)

/-- The quotient truncated toward zero. -/
def truncDiv (p : Int) (q : Nat) : Int := Int.tdiv p q

/-- Clamped to `lo..hi`. -/
def clampInt (lo hi v : Int) : Int := max lo (min hi v)

/-- Clamped to `lo..hi`. -/
def clampNat (lo hi v : Nat) : Nat := max lo (min hi v)

/-- A slew angle, or a difference of two, taken modulo 36000: 0..35999 (00 section 5.2). -/
def mod360 (a : Int) : Nat := (a % 36000).toNat

/-- An angle normalised into -18000..17999 (00 section 5.2). -/
def norm180 (a : Int) : Int := (a + 18000) % 36000 - 18000

/-! ### The scaled sine (R39) -/

/-- Pi times 2^64, floor: the angle constant of the sine series. -/
def piScaled : Nat := 57952155664616982739

/-- The alternating sine series in nested form, scaled by 2^64, from term `k` inward: `acc` becomes
1 - x²/((2k)(2k+1)) · acc. -/
def sineSeries (x2 : Nat) : Nat → Nat → Nat
  | 0, acc => acc
  | k + 1, acc =>
    sineSeries x2 k (2 ^ 64 - x2 * acc / 2 ^ 64 / ((2 * (k + 1)) * (2 * (k + 1) + 1)))

/-- 16384 · sin of an angle 0..9000 cd, rounded to the nearest integer (R39). DEDUCED (log 14): fourteen terms
at 64 bits leave an error far below the least distance, 0.00001, of any value from a half. -/
def sineQuarter (a : Nat) : Nat :=
  let x := a * piScaled / 18000
  let sin := x * sineSeries (x * x / 2 ^ 64) 14 (2 ^ 64) / 2 ^ 64
  (16384 * sin + 2 ^ 63) / 2 ^ 64

/-- The scaled sine s(a) of R39. -/
def scaledSin (a : Int) : Int :=
  let n := norm180 a
  let size := n.natAbs
  let v : Int := if size ≤ 9000 then sineQuarter size else sineQuarter (18000 - size)
  if n < 0 then -v else v

/-- The scaled cosine c(a) = s(a + 9000) of R39. -/
def scaledCos (a : Int) : Int := scaledSin (a + 9000)

/-- A product with a scaled sine or cosine, divided by 16384 and rounded (R40). -/
def unscale (p : Int) : Int := roundDiv p 16384

/-! ### Interpolation (R66) -/

/-- The reading of a nine-value table at `u`: points `x0`, `x0 + step`, ... (R66). -/
def interpolate (v : Nat → Int) (x0 : Int) (step : Nat) (u : Int) : Int :=
  if u ≤ x0 then v 0
  else if x0 + 8 * (step : Int) ≤ u then v 8
  else
    let i := ((u - x0) / step).toNat
    v i + truncDiv ((v (i + 1) - v i) * (u - (x0 + i * (step : Int)))) step

/-! ### CRC-16 (R99) -/

/-- One bit of the CRC-16: polynomial 0x1021, most significant bit first. -/
def crc16Bit (c : BitVec 16) : BitVec 16 := if c.msb then (c <<< 1) ^^^ 0x1021#16 else c <<< 1

/-- One byte into the CRC-16. -/
def crc16Byte (c : BitVec 16) (b : Byte) : BitVec 16 :=
  Nat.repeat crc16Bit 8 (c ^^^ (b.setWidth 16 <<< 8))

/-- The CRC-16 of R99 over bytes: initial value 0xFFFF, no reflection, no final inversion. -/
def crc16 (bs : List Byte) : BitVec 16 := bs.foldl crc16Byte 0xFFFF#16

end Sys2Proof.Machine
end

