-- ==== Sys2Proof/Machine/Ops.lean ====
section
/-! DEFINITION. The shared operations: reading and writing the fixed families of values, timers, the notice
queue (R188), requests for a save (R194), replies (R183), and what a frame on link B restarts (R8, R92). -/

namespace Sys2Proof.Machine

/-! ### Families of values -/

/-- The value of function `f`. -/
def perFnGet {α : Type} (p : PerFn α) : HydFn → α
  | .boomUp => p.boomUp
  | .boomDown => p.boomDown
  | .stickIn => p.stickIn
  | .stickOut => p.stickOut
  | .bucketCurl => p.bucketCurl
  | .bucketDump => p.bucketDump
  | .slewLeft => p.slewLeft
  | .slewRight => p.slewRight

/-- The family whose value at each function is `g`'s. -/
def perFnOf {α : Type} (g : HydFn → α) : PerFn α :=
  ⟨g .boomUp, g .boomDown, g .stickIn, g .stickOut, g .bucketCurl, g .bucketDump, g .slewLeft, g .slewRight⟩

/-- The family with the value of `f` replaced. -/
def perFnSet {α : Type} (p : PerFn α) (f : HydFn) (a : α) : PerFn α :=
  perFnOf fun g => if g = f then a else perFnGet p g

/-- The functions in function order. -/
def allFns : List HydFn :=
  [.boomUp, .boomDown, .stickIn, .stickOut, .bucketCurl, .bucketDump, .slewLeft, .slewRight]

/-- The values in function order. -/
def perFnList {α : Type} (p : PerFn α) : List α := allFns.map (perFnGet p)

/-- The function index, 0 for BOOM_UP to 7 for SLEW_RIGHT (R103). -/
def fnIndex : HydFn → Nat
  | .boomUp => 0
  | .boomDown => 1
  | .stickIn => 2
  | .stickOut => 3
  | .bucketCurl => 4
  | .bucketDump => 5
  | .slewLeft => 6
  | .slewRight => 7

/-- Whether a function moves the slew. -/
def isSlew (f : HydFn) : Bool := f == .slewLeft || f == .slewRight

/-- The ten meters in code order (R162). -/
def allMeters : List Meter :=
  [.engine1Run, .engine2Run, .pumpWork, .oilHeat, .fuel, .payload, .passes, .slewTravel, .calendar, .violations]

/-- The value of a meter. -/
def meterGet (p : PerMeter) : Meter → Nat
  | .engine1Run => p.engine1Run
  | .engine2Run => p.engine2Run
  | .pumpWork => p.pumpWork
  | .oilHeat => p.oilHeat
  | .fuel => p.fuel
  | .payload => p.payload
  | .passes => p.passes
  | .slewTravel => p.slewTravel
  | .calendar => p.calendar
  | .violations => p.violations

/-- The meters with one value replaced. -/
def meterSet (p : PerMeter) (m : Meter) (v : Nat) : PerMeter :=
  match m with
  | .engine1Run => { p with engine1Run := v }
  | .engine2Run => { p with engine2Run := v }
  | .pumpWork => { p with pumpWork := v }
  | .oilHeat => { p with oilHeat := v }
  | .fuel => { p with fuel := v }
  | .payload => { p with payload := v }
  | .passes => { p with passes := v }
  | .slewTravel => { p with slewTravel := v }
  | .calendar => { p with calendar := v }
  | .violations => { p with violations := v }

/-- The meter with a code, 0..9 (R162). -/
def meterOfCode (code : Nat) : Option Meter := allMeters[code]?

/-- The code of a meter (R162). -/
def meterCode : Meter → Nat
  | .engine1Run => 0
  | .engine2Run => 1
  | .pumpWork => 2
  | .oilHeat => 3
  | .fuel => 4
  | .payload => 5
  | .passes => 6
  | .slewTravel => 7
  | .calendar => 8
  | .violations => 9

/-- The record of a channel. -/
def channelGet (t : ChannelTable) : Channel → ChannelRec
  | .boomAng => t.boomAng
  | .stickAng => t.stickAng
  | .bucketAng => t.bucketAng
  | .upperTilt => t.upperTilt
  | .slewEnc => t.slewEnc
  | .boomPress => t.boomPress

/-- The table with the record of one channel replaced. -/
def channelSet (t : ChannelTable) (ch : Channel) (r : ChannelRec) : ChannelTable :=
  match ch with
  | .boomAng => { t with boomAng := r }
  | .stickAng => { t with stickAng := r }
  | .bucketAng => { t with bucketAng := r }
  | .upperTilt => { t with upperTilt := r }
  | .slewEnc => { t with slewEnc := r }
  | .boomPress => { t with boomPress := r }

/-- The channels in table order (R17). -/
def allChannels : List Channel := [.boomAng, .stickAng, .bucketAng, .upperTilt, .slewEnc, .boomPress]

/-- The slot of an engine. -/
def slotGet (s : State) : Engine → Slot
  | .e1 => s.eeu.slot1
  | .e2 => s.eeu.slot2

/-- The state with the slot of an engine replaced. -/
def slotSet (e : Engine) (x : Slot) (s : State) : State :=
  match e with
  | .e1 => { s with eeu.slot1 := x }
  | .e2 => { s with eeu.slot2 := x }

/-- Engine number, 1 or 2. -/
def engineNumber : Engine → Nat
  | .e1 => 1
  | .e2 => 2

/-- A vector with a function applied to every entry. -/
def vectorMap {α β : Type} {n : Nat} (g : α → β) (v : Vector α n) : Vector β n :=
  ⟨⟨v.toList.map g⟩, by simp⟩

/-! ### Codes -/

/-- The code of a part mode (R182). -/
def modeCode : PartMode → Nat
  | .start => 0
  | .parked => 1
  | .working => 2
  | .service => 3
  | .halt => 4
  | .closing => 5
  | .sleep => 6

/-- The rank of a power mode, which is also its code (R156, R182). -/
def powerRank : PowerMode → Nat
  | .warmup => 0
  | .economy => 1
  | .standard => 2
  | .peak => 3

/-- The code of a validity part (R48, R182). -/
def partCode : Part → Nat
  | .valid => 1
  | .held => 2
  | .invalid => 3

/-- The code of a channel state (R33). -/
def chStateCode : ChState → Nat
  | .absent => 0
  | .valid => 1
  | .suspect => 2
  | .stale => 3
  | .failed => 4

/-- The code of a slot state (R132). -/
def slotCode : SlotState → Nat
  | .unused => 0
  | .stopped => 1
  | .starting => 2
  | .warming => 3
  | .ready => 4
  | .joining => 5
  | .online => 6
  | .leaving => 7
  | .cooldown => 8
  | .stopping => 9
  | .faulted => 10

/-- The code of a ladder step (R146). -/
def ladderCode : Ladder → Nat
  | .work => 0
  | .autoIdle => 1
  | .lowIdle => 2
  | .shutdownWarning => 3
  | .shutDown => 4

/-- The code of an item state (R171). -/
def itemStateCode : ItemState → Nat
  | .ok => 0
  | .approaching => 1
  | .due => 2
  | .overdue => 3

/-- The code of a restriction (R182). -/
def restrictionCode : Restriction → Nat
  | .none => 0
  | .powerStandard => 1
  | .powerEconomy => 2
  | .singleEngine => 3
  | .slewCreep => 4

/-- The restriction with a code (R182). -/
def restrictionOfCode : Nat → Option Restriction
  | 0 => some .none
  | 1 => some .powerStandard
  | 2 => some .powerEconomy
  | 3 => some .singleEngine
  | 4 => some .slewCreep
  | _ => none

/-- The code of a region (R191). -/
def regionCode : Region → Nat
  | .calibration => 0
  | .settings => 1
  | .fences => 2
  | .items => 3
  | .meters => 4
  | .trucks => 5

/-- The code of a severity (R182), which is also its order. -/
def severityCode : Severity → Nat
  | .info => 0
  | .advise => 1
  | .warn => 2
  | .fault => 3

/-- The code of a notice kind (R182). -/
def noticeCode : NoticeKind → Nat
  | .modeChange => 1
  | .sensorState => 2
  | .poseValidity => 3
  | .passWeighed => 4
  | .targetReached => 5
  | .lastPass => 6
  | .truckClosed => 7
  | .activeSet => 8
  | .fenceLock => 9
  | .fenceDataLost => 10
  | .tokenLost => 11
  | .tokenGranted => 12
  | .recordCommitted => 13
  | .grantUnconfirmed => 14
  | .responseLate => 15
  | .responseFail => 16
  | .engineSlot => 17
  | .startFailed => 18
  | .joinRefused => 19
  | .leaveRefused => 20
  | .groupDropped => 21
  | .idleState => 22
  | .shutdownWarning => 23
  | .powerMode => 24
  | .itemState => 25
  | .restriction => 26
  | .metersLost => 27
  | .itemsLost => 28
  | .pvcSilent => 29
  | .storeError => 30

/-- The code of a reply result (R182). -/
def resultCode : ReplyResult → Nat
  | .accepted => 0
  | .acceptedClamped => 1
  | .refusedState => 2
  | .refusedRole => 3
  | .refusedToken => 4
  | .refusedLock => 5
  | .refusedRange => 6
  | .refusedBusy => 7
  | .crcMismatch => 8
  | .storeFailed => 9

/-! ### The live calibration, by its field codes (R192) -/

/-- A calibration field by its CAL_WRITE code; 0 beyond the block. -/
def calField (c : Calibration) (code : Nat) : Int := (c.fields[code]?).getD 0

/-- Geometry x0. -/
def calX0 (c : Calibration) : Int := calField c 0
/-- Geometry z0. -/
def calZ0 (c : Calibration) : Int := calField c 1
/-- Boom length Lb. -/
def calLb (c : Calibration) : Int := calField c 2
/-- Stick length Ls. -/
def calLs (c : Calibration) : Int := calField c 3
/-- Bucket length Lk. -/
def calLk (c : Calibration) : Int := calField c 4
/-- Full rate of a function. -/
def calFullRate (c : Calibration) (f : HydFn) : Nat := (calField c (5 + fnIndex f)).toNat
/-- Head area AH. -/
def calHeadArea (c : Calibration) : Int := calField c 13
/-- Rod area AR. -/
def calRodArea (c : Calibration) : Int := calField c 14
/-- Lever-arm table, value `i` of 0..8. -/
def calLeverArm (c : Calibration) (i : Nat) : Int := calField c (15 + i)
/-- Empty-moment table, value `i` of 0..8. -/
def calEmptyMoment (c : Calibration) (i : Nat) : Int := calField c (24 + i)
/-- Curl threshold. -/
def calCurl (c : Calibration) : Int := calField c 33
/-- Engine count. -/
def calEngineCount (c : Calibration) : Nat := (calField c 34).toNat
/-- Rated power of an engine. -/
def calRated (c : Calibration) : Engine → Nat
  | .e1 => (calField c 35).toNat
  | .e2 => (calField c 36).toNat
/-- Mode speed of a power mode. -/
def calModeSpeed (c : Calibration) : PowerMode → Nat
  | .peak => (calField c 37).toNat
  | .standard => (calField c 38).toNat
  | .economy => (calField c 39).toNat
  | .warmup => (calField c 40).toNat
/-- Auto-idle speed. -/
def calAutoIdleSpeed (c : Calibration) : Nat := (calField c 41).toNat
/-- Low idle speed. -/
def calLowIdleSpeed (c : Calibration) : Nat := (calField c 42).toNat
/-- Service creep cap. -/
def calServiceCreep (c : Calibration) : Nat := (calField c 43).toNat
/-- Slew creep cap. -/
def calSlewCreep (c : Calibration) : Nat := (calField c 44).toNat
/-- Late threshold, ms. -/
def calLateThreshold (c : Calibration) : Nat := (calField c 45).toNat
/-- Fault mask. -/
def calFaultMask (c : Calibration) : Nat := (calField c 46).toNat
/-- CDT service permission. -/
def calCdtService (c : Calibration) : Bool := calField c 50 == 1

/-! ### Power and time -/

/-- The part has its main supply and is not held in reset (R13). -/
def running (s : State) : Bool := s.power.mainGood && !s.power.resetLine

/-- The part runs and is not asleep: it takes frames and commands (R12, R179). -/
def awake (s : State) : Bool := running s && s.mdc.mode != .sleep

/-- A timer that runs from `t` has reached its limit. -/
def reached (t : Option Millis) (limit now : Nat) : Bool :=
  match t with
  | some t0 => decide (t0 + limit ≤ now)
  | none => false

/-- The time a running timer shows; 0 while stopped. -/
def elapsed (t : Option Millis) (now : Nat) : Nat := (t.map fun t0 => now - t0).getD 0

/-! ### Notices (R188) -/

/-- Two notices share one queue entry. -/
def sameNotice (a b : Notice) : Bool := a.kind == b.kind && a.subject == b.subject

/-- A notice raised, by the four cases of R188: the queue after it, and whether the notice was dropped. -/
def enqueueNotice (q : List Notice) (n : Notice) : List Notice × Bool :=
  if q.any (sameNotice n) then (q.map fun e => if sameNotice n e then n else e, false)
  else if q.length < 24 then (q ++ [n], false)
  else if q.any (fun e => decide (severityCode e.severity < severityCode n.severity)) then
    (q.eraseP (fun e => decide (severityCode e.severity < severityCode n.severity)) ++ [n], false)
  else (q, true)

/-- Raise a notice, stamped with the calendar time (R188). -/
def notify (kind : NoticeKind) (subject : Nat) (severity : Severity) (value : Option Nat) (s : State) : State :=
  let r := enqueueNotice s.lnc.notices { kind, subject, severity, value, stamp := s.clock.time }
  { s with lnc.notices := r.1, lnc.noticeOverflow := s.lnc.noticeOverflow || r.2 }

/-! ### Save requests (R194) -/

/-- Ask the Retained Store for a save of a region. A save asked for in CLOSING makes the part wait for its
write, so a SLEEP that was due is due no longer; a reset that is due (`resetWait`) does not wait for it and cuts the
write short (R11, R14; DESIGN CHOICE, log 21). -/
def askSave (r : Region) (s : State) : State :=
  if r ∈ s.rts.pendingSave then s
  else { s with rts.pendingSave := s.rts.pendingSave ++ [r], mdc.sleepWait := none }

/-! ### Link B: frames heard, replies -/

/-- A frame from a node on link B restarts the ST silence timer of SERVICE and the token silence timer of the
holder (R8, R92, R179). -/
def heardOnB (node : Nat) (s : State) : State :=
  let s := if node = 7 ∧ s.mdc.mode = .service then { s with mdc.stSilence := some s.now } else s
  match s.rts.token.holder with
  | some h => if h.who.node = node then { s with rts.token.silence := some s.now } else s
  | none => s

/-- What a block answers to a command: a result and a detail, absent where the rule states none. -/
structure Answer where
  result : ReplyResult
  detail : Option Int
deriving DecidableEq, Repr

/-- An answer with no stated detail. -/
def plain (r : ReplyResult) : Answer := { result := r, detail := none }

/-- ACCEPTED with a stated detail. -/
def acceptedWith (d : Int) : Answer := { result := .accepted, detail := some d }

/-- Place a reply at the end of the reply queue (R183). -/
def placeReply (code : Nat) (a : Answer) (dest : Master) (content : List Byte) (s : State) : State :=
  { s with lnc.replies := s.lnc.replies ++
      [{ code, result := a.result, detail := a.detail, dest, content, sent := 0 }] }

/-- The token is held by this master. -/
def holds (m : Master) (s : State) : Bool :=
  match s.rts.token.holder with
  | some h => h.who == m
  | none => false

end Sys2Proof.Machine
end

