-- ==== Sys2Proof/Machine/Links.lean ====
section
/-! DEFINITION. What the three link controllers take next (R181, R183, R188). -/

namespace Sys2Proof.Machine

/-- The number of RECORD frames that some content needs: five bytes each (R182, R185). -/
def recordCount (content : List Byte) : Nat := (content.length + 4) / 5

/-- The frames of a reply: the REPLY, then the RECORD frames in index order (R181, R185). -/
def replyFrames (r : Reply) : Nat := 1 + recordCount r.content

/-- The next frame of a reply of which `sent` frames have been handed over. -/
def replyFrame (r : Reply) : TxFrame :=
  if r.sent = 0 then .reply r.code r.result r.detail r.dest
  else .record r.dest (r.sent - 1) (recordCount r.content) ((r.content.drop (5 * (r.sent - 1))).take 5)

/-- Link A's controller, when free, takes the first waiting frame: the grant pair, then the requests (R181). -/
def settleA (s : State) : State :=
  if s.lnc.ctlA.isSome then s
  else match s.lnc.txGrant, s.lnc.txReq1, s.lnc.txReq2 with
    | f :: rest, _, _ => { s with lnc.ctlA := some f, lnc.txGrant := rest }
    | [], some f, _ => { s with lnc.ctlA := some f, lnc.txReq1 := none }
    | [], none, some f => { s with lnc.ctlA := some f, lnc.txReq2 := none }
    | [], none, none => s

/-- 10 ms have passed since the last NOTICE was handed over, or none has been (R188). -/
def noticeSpaced (s : State) : Bool :=
  match s.lnc.lastNotice with
  | some t => decide (t + 10 ≤ s.now)
  | none => true

/-- A reply whose last frame has been handed over has left the queue: one reply fewer is awaited by an entry
to SLEEP or by a PART_RESET (R11, R14, R183). -/
def replyGone (s : State) : State :=
  { s with mdc.sleepWait := s.mdc.sleepWait.map (· - 1), mdc.resetWait := s.mdc.resetWait.map (· - 1) }

/-- Link B's controller, when free, takes the first waiting frame: the head of the reply queue with its
records, then the POSE_REPORT pair, then the head of the notice queue, at most once every 10 ms (R181, R183,
R188). -/
def settleB (s : State) : State :=
  if s.lnc.ctlB.isSome then s
  else match s.lnc.replies, s.lnc.txPose, s.lnc.notices with
    | r :: rest, _, _ =>
      let s' := { s with lnc.ctlB := some (replyFrame r) }
      if r.sent + 1 < replyFrames r then { s' with lnc.replies := { r with sent := r.sent + 1 } :: rest }
      else replyGone { s' with lnc.replies := rest }
    | [], f :: rest, _ => { s with lnc.ctlB := some f, lnc.txPose := rest }
    | [], [], n :: rest =>
      if noticeSpaced s then
        { s with lnc.ctlB := some (.notice n), lnc.notices := rest, lnc.lastNotice := some s.now }
      else s
    | [], [], [] => s

/-- Every free controller takes its first waiting frame. The part sends nothing in SLEEP (R179), and no block
sends on link S. -/
def linkSettle (s : State) : State := if awake s then settleB (settleA s) else s

/-- A controller becomes free: its frame has been sent (FRAME_TRANSMIT, R181). -/
def freeController (l : Link) (s : State) : State :=
  match l with
  | .a => { s with lnc.ctlA := none }
  | .b => { s with lnc.ctlB := none }
  | .s => { s with lnc.ctlS := none }

end Sys2Proof.Machine
end

