-- ==== Sys2Proof/Machine/Operands.lean ====
section
/-! DEFINITION. The arguments of commands: clamping with its reply (R53, R54, R95, R97, R186), the ranges of
the calibration fields (R59, R192), and the plausible ranges of the sensor channels (R17). -/

namespace Sys2Proof.Machine

/-- An argument after clamping: the value used, and whether it was clamped. -/
structure Clamped where
  value : Int
  changed : Bool
deriving DecidableEq, Repr

/-- Clamp an argument to `lo..hi`. -/
def clampArg (lo hi v : Int) : Clamped := { value := clampInt lo hi v, changed := clampInt lo hi v != v }

/-- The answer over clamped arguments in their order: ACCEPTED_CLAMPED with the first clamped value used, or
ACCEPTED. -/
def clampAnswer (args : List Clamped) : Answer :=
  match args.find? (·.changed) with
  | some c => { result := .acceptedClamped, detail := some c.value }
  | none => plain .accepted

/-- What a calibration field admits: a range, or a list of codes (R97, R192). -/
inductive CalRange where
  | range (lo hi : Int)
  | codes (l : List Int)
deriving DecidableEq, Repr

/-- The range of each calibration field by its code (R59, R103, R145, R192). -/
def calRange (code : Nat) : Option CalRange :=
  if code = 0 then some (.range (-2000) 4000)
  else if code = 1 then some (.range 0 6000)
  else if code = 2 then some (.range 2000 15000)
  else if code = 3 then some (.range 1000 8000)
  else if code = 4 then some (.range 500 4000)
  else if code ≤ 12 then some (.range 100 20000)
  else if code = 13 then some (.range 1000 2000000)
  else if code = 14 then some (.range 0 2000000)
  else if code ≤ 23 then some (.range 0 5000)
  else if code ≤ 32 then some (.range 0 100000000)
  else if code = 33 then some (.range (-18000) 17999)
  else if code = 34 then some (.codes [1, 2])
  else if code ≤ 36 then some (.range 100 1500)
  else if code ≤ 40 then some (.range 1000 2200)
  else if code = 41 then some (.range 700 1400)
  else if code = 42 then some (.range 600 1000)
  else if code = 43 then some (.range 10 40)
  else if code = 44 then some (.range 10 50)
  else if code = 45 then some (.range 200 1500)
  else if code = 46 then some (.range 0 63)
  else if code ≤ 49 then some (.codes [250, 500])
  else if code = 50 then some (.codes [0, 1])
  else none

/-- The plausible range of each value of a channel (R17). -/
def plausibleRange : Channel → Int × Int
  | .boomAng | .stickAng | .bucketAng => (-18000, 17999)
  | .upperTilt => (-3000, 3000)
  | .slewEnc => (0, 35999)
  | .boomPress => (0, 50000)

/-- The step limit of each value of a channel (R17). -/
def stepLimit : Channel → Nat
  | .boomAng | .stickAng | .bucketAng | .upperTilt => 500
  | .slewEnc => 800
  | .boomPress => 8000

/-- Whether a channel carries two values (R17). -/
def twoValued : Channel → Bool
  | .upperTilt | .boomPress => true
  | _ => false

/-- The reading a sample carries: value 2 of a one-value node is not read (R17). -/
def readingOf (ch : Channel) (v1 v2 : Int) : Reading := { v1, v2 := if twoValued ch then v2 else 0 }

end Sys2Proof.Machine
end

