-- ==== Sys2Proof/Machine/Geometry.lean ====
section
/-! DEFINITION. The Geometry Unit: forming a pose from the channel table, the calibration and the grade target
(R37 to R51, R55, R56). -/

namespace Sys2Proof.Machine

/-- The value a channel gives to the pose (R37): none from FAILED or ABSENT, the accepted one otherwise. -/
def readChannel (c : ChannelRec) : Option Reading :=
  match c.state with
  | .valid | .suspect | .stale => c.accepted
  | .absent | .failed => none

/-- A channel counts as current: VALID or SUSPECT (R47, R49). -/
def current (st : ChState) : Bool := st == .valid || st == .suspect

/-- A validity part judged from channel states (R47). -/
def partOf (l : List ChState) : Part :=
  if l.any fun st => st == .failed || st == .absent then .invalid
  else if l.any (· == .stale) then .held
  else .valid

/-- The plane part (R47). -/
def planePart (cal : CalStatus) (t : ChannelTable) : Part :=
  match cal with
  | .invalid => .invalid
  | .valid => partOf [t.boomAng.state, t.stickAng.state, t.bucketAng.state, t.upperTilt.state]

/-- The slew part (R47). -/
def slewPart (t : ChannelTable) : Part := partOf [t.slewEnc.state]

/-- Saturation of a coordinate (R45). -/
def saturate (v : Int) : Int := clampInt (-32767) 32767 v

/-- The six coordinates before saturation, of stages 1 to 3 (R41, R42, R43): xp, zp, x1, z1, x3, z3. -/
structure RawCoords where
  xp : Int
  zp : Int
  x1 : Int
  z1 : Int
  x3 : Int
  z3 : Int
deriving DecidableEq, Repr

/-- Stages 1 to 3 of the pose (R41, R42, R43). -/
def rawCoords (cal : Calibration) (boom stick bucket psi : Int) : RawCoords :=
  let xp := unscale (calX0 cal * scaledCos psi - calZ0 cal * scaledSin psi)
  let zp := unscale (calX0 cal * scaledSin psi + calZ0 cal * scaledCos psi)
  let x1 := xp + unscale (calLb cal * scaledCos boom)
  let z1 := zp + unscale (calLb cal * scaledSin boom)
  let x3 := x1 + unscale (calLs cal * scaledCos stick) + unscale (calLk cal * scaledCos bucket)
  let z3 := z1 + unscale (calLs cal * scaledSin stick) + unscale (calLk cal * scaledSin bucket)
  { xp, zp, x1, z1, x3, z3 }

/-- The published coordinates, with stage 4 over the saturated ones (R44, R45). -/
def publishCoords (r : RawCoords) : Coords :=
  { xp := saturate r.xp, zp := saturate r.zp, x1 := saturate r.x1, z1 := saturate r.z1, x3 := saturate r.x3,
    z3 := saturate r.z3, h := max (saturate r.z1) (saturate r.z3), reach := saturate r.x3,
    depth := saturate r.z3 }

/-- Some coordinate saturates (R45). -/
def overranged (r : RawCoords) : Bool :=
  [r.xp, r.zp, r.x1, r.z1, r.x3, r.z3].any fun v => decide (saturate v ≠ v)

/-- The coordinates before saturation when they are present (R46). -/
def frontCoords (cal : Calibration) (plane : Part) (t : ChannelTable) : Option RawCoords :=
  if plane = .invalid then none
  else match readChannel t.boomAng, readChannel t.stickAng, readChannel t.bucketAng, readChannel t.upperTilt with
    | some b, some st, some k, some u => some (rawCoords cal b.v1 st.v1 k.v1 u.v1)
    | _, _, _, _ => none

/-- What the rate memory holds of a channel after a read (R49). -/
def rateRead (c : ChannelRec) : RateRead := { state := c.state, value := (readChannel c).map (·.v1) }

/-- The change of a channel since the previous expiry, when both reads found it VALID or SUSPECT (R49); the
slew's is wrapped. -/
def rateDiff (wrap : Bool) (c : ChannelRec) (m : Option RateRead) : Option Int :=
  match m, readChannel c with
  | some m, some r =>
    match m.value with
    | some v =>
      if current c.state && current m.state then some (if wrap then norm180 (r.v1 - v) else r.v1 - v) else none
    | none => none
  | _, _ => none

/-- The slew difference of this expiry (R49, R50). -/
def slewDiff (t : ChannelTable) (mem : Option RateMem) : Option Int :=
  rateDiff true t.slewEnc (mem.map (·.slew))

/-- The rate memory after an expiry (R49). -/
def rateMemOf (t : ChannelTable) : RateMem :=
  { boom := rateRead t.boomAng, stick := rateRead t.stickAng, bucket := rateRead t.bucketAng,
    slew := rateRead t.slewEnc }

/-- The target height under the tip (R55). -/
def targetHeight (g : Grade) (x3 : Int) : Int := saturate (g.zRef + roundDiv (g.slope * (x3 - g.xRef)) 10000)

/-- The next pose sequence (R51). -/
def nextPoseSeq (n : Nat) : Nat := if n = 65535 then 1 else n + 1

/-- The pose of an expiry (R37 to R51, R55, R56). -/
def formPose (s : State) : Pose :=
  let t := s.siu
  let plane := planePart s.mdc.calStatus t
  let slew := slewPart t
  let raw := frontCoords s.rts.cal plane t
  let coords := raw.map publishCoords
  let rate := fun (d : Option Int) => d.map (· * 50)
  { seq := nextPoseSeq s.gmu.pose.seq, time := some s.now, plane, slew,
    boom := (readChannel t.boomAng).map (·.v1), stick := (readChannel t.stickAng).map (·.v1),
    bucket := (readChannel t.bucketAng).map (·.v1), psi := (readChannel t.upperTilt).map (·.v1),
    roll := (readChannel t.upperTilt).map (·.v2),
    sigma := if slew = .invalid then none else (readChannel t.slewEnc).map (·.v1),
    coords, overrange := (raw.map overranged).getD false,
    boomRate := rate (rateDiff false t.boomAng (s.gmu.rateMem.map (·.boom))),
    stickRate := rate (rateDiff false t.stickAng (s.gmu.rateMem.map (·.stick))),
    bucketRate := rate (rateDiff false t.bucketAng (s.gmu.rateMem.map (·.bucket))),
    slewRate := rate (slewDiff t s.gmu.rateMem),
    deviation := s.gmu.grade.bind fun g => coords.map fun c => clampInt (-9999) 9999 (c.z3 - targetHeight g c.x3),
    gradeFloor := s.gmu.grade.bind fun g =>
      if g.stop then some { limit := coords.map fun c => targetHeight g c.x3, margin := g.margin } else none }

/-- The notice of a validity part that differs from the previous pose's (R48). -/
def notifyPart (subject : Nat) (old new : Part) (s : State) : State :=
  if old = new then s
  else notify .poseValidity subject
    (match new with | .valid => .info | .held => .advise | .invalid => .warn) (some (partCode new)) s

/-- Publication of a pose (R48, R49, R51): the record, the rate memory, the notices, the timer reloaded. The plane
part's notice stands before the slew part's, and both before those of the pose's users (DESIGN CHOICE, log 8). -/
def publishPose (s : State) : State :=
  let p := formPose s
  let s' := { s with gmu.pose := p, gmu.rateMem := some (rateMemOf s.siu),
                     gmu.poseTimer := s.gmu.poseTimer.map (· + 20) }
  notifyPart 1 s.gmu.pose.slew p.slew (notifyPart 0 s.gmu.pose.plane p.plane s')

/-- A joint rate in a function's own direction (R38). -/
def ownRate (p : Pose) : HydFn → Option Int
  | .boomUp => p.boomRate
  | .boomDown => p.boomRate.map (-·)
  | .stickOut => p.stickRate
  | .stickIn => p.stickRate.map (-·)
  | .bucketCurl => p.bucketRate
  | .bucketDump => p.bucketRate.map (-·)
  | .slewLeft => p.slewRate
  | .slewRight => p.slewRate.map (-·)

end Sys2Proof.Machine
end

