-- ==== Sys2Proof/Machine/Caps.lean ====
section
/-! DEFINITION. The Envelope Unit up to the granted caps: the caps of fences (R105 to R111), the computed and
granted caps (R112 to R116), the lever record (R104), arming and disarming of the monitors (R122, R124). -/

namespace Sys2Proof.Machine

/-! ### Distances and caps of one fence -/

/-- The cap at distance `d` with margin `w` and creep cap `c` (R106). -/
def capAt (d : Int) (w c : Nat) : Nat :=
  if d ≤ 0 then 0 else if (w : Int) ≤ d then 100 else c + (100 - c) * d.toNat / w

/-- A slew angle lies inside a sector (R107). -/
def inSector (sigma : Int) (r : Sector) : Bool :=
  decide (mod360 (sigma - r.first) < mod360 ((r.last : Int) - r.first))

/-- The caps on SLEW_LEFT and SLEW_RIGHT. -/
structure SlewCaps where
  left : Nat
  right : Nat
deriving DecidableEq, Repr

/-- The slew caps toward a sector from outside it (R107). -/
def sectorApproach (sigma : Int) (r : Sector) (w c : Nat) : SlewCaps :=
  { left := capAt (mod360 ((r.first : Int) - sigma)) w c, right := capAt (mod360 (sigma - r.last)) w c }

/-- The slew caps inside a sector: the direction of the nearer edge creeps, the other is held (R108). -/
def sectorHold (sigma : Int) (r : Sector) (c : Nat) : SlewCaps :=
  if mod360 ((r.last : Int) - sigma) ≤ mod360 (sigma - r.first) then { left := c, right := 0 }
  else { left := 0, right := c }

/-- The caps a fence gives, by function, from a pair of slew caps; the six front functions take 100. -/
def slewCapOf (c : SlewCaps) : HydFn → Nat
  | .slewLeft => c.left
  | .slewRight => c.right
  | .boomUp | .boomDown | .stickIn | .stickOut | .bucketCurl | .bucketDump => 100

/-- The functions that a planar fence restricts (R105). -/
def restricts : PlanarKind → HydFn → Bool
  | .ceiling, f => f == .boomUp || f == .stickOut
  | .floor, f => f == .boomDown || f == .stickIn
  | .reach, f => f == .stickOut || f == .boomDown

/-- The distance to a planar fence (R105). -/
def planarDistance (k : PlanarKind) (limit : Int) (c : Coords) : Int :=
  match k with
  | .ceiling => limit - c.h
  | .floor => c.z3 - limit
  | .reach => limit - c.x3

/-- A pose validity part the fence needs is INVALID (R110). -/
def partLost (sh : FenceShape) (plane slew : Part) : Bool :=
  match sh with
  | .planar _ _ none => plane == .invalid
  | .planar _ _ (some _) => plane == .invalid || slew == .invalid
  | .sector _ => slew == .invalid

/-- A fence restricts a function at its creep cap while a needed part is INVALID (R110). -/
def creeps (sh : FenceShape) (f : HydFn) : Bool :=
  match sh with
  | .planar k _ _ => restricts k f
  | .sector _ => isSlew f

/-- The cap of a planar fence that applies at every slew angle (R105, R106). -/
def planarCap (k : PlanarKind) (d : Int) (w c : Nat) (f : HydFn) : Nat :=
  if restricts k f then capAt d w c else 100

/-- The cap that a fence gives a function at a pose (R105 to R110). -/
def fenceCap (fe : Fence) (p : Pose) (f : HydFn) : Nat :=
  let lost := if creeps fe.shape f then fe.creep else 100
  if partLost fe.shape p.plane p.slew then lost
  else match fe.shape, p.coords, p.sigma with
    | .planar k limit none, some c, _ => planarCap k (planarDistance k limit c) fe.margin fe.creep f
    | .planar k limit (some r), some c, some sigma =>
      let d := planarDistance k limit c
      if inSector sigma r then
        if 0 < d then planarCap k d fe.margin fe.creep f
        else min (planarCap k d fe.margin fe.creep f) (slewCapOf (sectorHold sigma r fe.creep) f)
      else if (fe.margin : Int) ≤ d then 100
      else slewCapOf (sectorApproach sigma r 1500 fe.creep) f
    | .sector r, _, some sigma =>
      if inSector sigma r then slewCapOf (sectorHold sigma r fe.creep) f
      else slewCapOf (sectorApproach sigma r fe.margin fe.creep) f
    | .planar _ _ none, none, _ | .planar _ _ (some _), _, _ | .sector _, _, none => lost

/-- The creep cap of the grade floor (R56). -/
def gradeCreep : Nat := 30

/-- The cap that the pose's grade floor gives a function (R111). -/
def gradeCap (p : Pose) (f : HydFn) : Nat :=
  match p.gradeFloor with
  | none => 100
  | some g => match g.limit, p.coords with
    | some l, some c =>
      if p.plane = .invalid then (if restricts .floor f then gradeCreep else 100)
      else planarCap .floor (planarDistance .floor l c) g.margin gradeCreep f
    | _, _ => if restricts .floor f then gradeCreep else 100

/-- The enabled fences of the active set (R112). -/
def activeFences (s : State) : List Fence :=
  match s.evu.fences.active with
  | none => []
  | some n => (s.evu.fences.sets[n].toList.filterMap id).filter (·.enabled)

/-- The fence term of a function at a pose (R112). -/
def fenceTerm (s : State) (p : Pose) (f : HydFn) : Nat :=
  (activeFences s).foldl (fun acc fe => min acc (fenceCap fe p f)) (gradeCap p f)

/-- A fence term lowered for validity: to the creep cap of each enabled fence of the active set, and of the
grade floor, whose needed part is INVALID in the latest pose (R114, R110). DEDUCED (log 15) for the grade
floor. -/
def lowered (s : State) (f : HydFn) (term : Nat) : Nat :=
  let p := s.gmu.pose
  let t := (activeFences s).foldl
    (fun acc fe => if partLost fe.shape p.plane p.slew && creeps fe.shape f then min acc fe.creep else acc) term
  if p.gradeFloor.isSome && p.plane == .invalid && restricts .floor f then min t gradeCreep else t

/-! ### Levers and neutral -/

/-- The lever demand on a function; an absent one counts as 0 (R104). -/
def demandOf (s : State) (f : HydFn) : Nat :=
  match s.evu.levers.demands with
  | some d => perFnGet d f
  | none => 0

/-- A function is at neutral (R104). -/
def neutral (s : State) (f : HydFn) : Bool := s.evu.levers.fresh && decide (demandOf s f < 5)

/-- The part is at neutral (R104). -/
def allNeutral (s : State) : Bool := allFns.all (neutral s)

/-! ### The cap table -/

/-- The row of a function. -/
abbrev capRow (s : State) (f : HydFn) : CapRow := perFnGet s.evu.caps f

/-- The computed cap of a function, by the part mode (R113). -/
def computedCap (s : State) (f : HydFn) : Nat :=
  match s.mdc.mode with
  | .start | .halt | .closing | .sleep => 0
  | .service => calServiceCreep s.rts.cal
  | .parked | .working =>
    let r := capRow s f
    if r.hold then 0 else min (min r.fence r.slewCreep) r.dataLost

/-- The modes in which a monitor may arm (R122). -/
def armingMode (m : PartMode) : Bool := m == .parked || m == .working || m == .service

/-- The next grant sequence (R118). -/
def nextGrantSeq (n : Nat) : Nat := (n + 1) % 256

/-- An IDLE monitor arms when its granted cap falls below the lever demand, but for a fall that a hold made;
the arming sequence is that of the grant which this event issues (R122). -/
def armOnFall (s : State) (f : HydFn) (granted : Nat) (m : Monitor) : Monitor :=
  let byHold := (capRow s f).hold && s.mdc.mode != .service
  if !m.armed && armingMode s.mdc.mode && !byHold && decide (granted < (capRow s f).granted) &&
      decide (granted < demandOf s f) then
    { m with armed := true, armTime := some s.now, armSeq := some (nextGrantSeq s.evu.grant.seq) }
  else m

/-- The granted cap of a function after its computed cap has been formed: it falls at once (R115). -/
def fallenCap (s : State) (f : HydFn) : Nat := min (capRow s f).granted (computedCap s f)

/-- Form the computed caps; each granted cap that stands above falls at once, and monitors arm on the falls
(R113, R115, R122). -/
def formCaps (s : State) : State :=
  { s with
    evu.caps := perFnOf fun f => { capRow s f with computed := computedCap s f, granted := fallenCap s f }
    evu.monitors := perFnOf fun f => armOnFall s f (fallenCap s f) (perFnGet s.evu.monitors f) }

/-- Each granted cap whose function is at neutral rises to its computed cap (R116). -/
def riseCaps (s : State) : State :=
  { s with evu.caps := perFnOf fun f =>
      let r := capRow s f
      if neutral s f then { r with granted := max r.granted r.computed } else r }

/-- Holds whose function is at neutral are released (R125). -/
def releaseHolds (s : State) : State :=
  { s with evu.caps := perFnOf fun f =>
      let r := capRow s f
      if neutral s f then { r with hold := false } else r }

/-- The monitor returned to IDLE, its last response time kept. -/
def disarm (m : Monitor) : Monitor := { m with armed := false, armTime := none, armSeq := none }

/-- An ARMED monitor whose demand is at or below its granted cap returns to IDLE (R124). -/
def disarmEnded (s : State) : State :=
  { s with evu.monitors := perFnOf fun f =>
      let m := perFnGet s.evu.monitors f
      if m.armed && decide (demandOf s f ≤ (capRow s f).granted) then disarm m else m }

/-- Every ARMED monitor returns to IDLE (entry to HALT or CLOSING, R122). -/
def disarmAll (s : State) : State :=
  { s with evu.monitors := perFnOf fun f =>
      let m := perFnGet s.evu.monitors f
      if m.armed then disarm m else m }

/-- The fence terms evaluated at a pose (R112 step 1). -/
def evaluateFences (s : State) : State :=
  { s with evu.caps := perFnOf fun f => { capRow s f with fence := fenceTerm s s.gmu.pose f } }

/-- The fence terms lowered for validity (R114). -/
def lowerFences (s : State) : State :=
  { s with evu.caps := perFnOf fun f => { capRow s f with fence := lowered s f (capRow s f).fence } }

/-- Entry to PARKED or WORKING from another mode: each fence term takes the computed cap that its function had
at the change, then is lowered for validity (R114). -/
def enterFences (s : State) : State :=
  { s with evu.caps := perFnOf fun f => { capRow s f with fence := lowered s f (capRow s f).computed } }

/-- The slew creep terms and the data-lost terms set from their conditions (R103). -/
def setTerms (s : State) : State :=
  { s with evu.caps := perFnOf fun f =>
      { capRow s f with
        slewCreep := if s.svu.summary.slewCreep && isSlew f then calSlewCreep s.rts.cal else 100
        dataLost := if s.evu.dataLost then calServiceCreep s.rts.cal else 100 } }

/-- Terms set and caps formed anew, at a change of a condition or of the calibration (R103, R114). -/
def reformCaps (s : State) : State := formCaps (setTerms s)

/-- The lever demands of a frame, each above 100 taken as 100 (R104). -/
def clampDemands (d : PerFn Nat) : PerFn Nat := perFnOf fun f => min 100 (perFnGet d f)

/-- A PVC_LEVERS frame in the lever record (R104). -/
def recordLevers (d : PerFn Nat) (s : State) : State :=
  { s with evu.levers := { demands := some (clampDemands d), arrival := some s.now, fresh := true } }

/-- The caps after a PVC_LEVERS arrival: holds released, caps formed anew and raised, monitors disarmed
(R116, R124, R125). -/
def leverCaps (s : State) : State := disarmEnded (riseCaps (formCaps (releaseHolds s)))

/-- A sequence names an entry of the outstanding list (R119). -/
def namesEntry (l : List (Nat × Millis)) (k : Nat) : Bool :=
  match l.head?, l.getLast? with
  | some o, some e => decide ((k + 256 - o.1) % 256 ≤ (e.1 + 256 - o.1) % 256)
  | _, _ => false

/-- The outstanding list after sequence `k` is acknowledged (R119): the named entry and every older one are
gone. -/
def acknowledge (l : List (Nat × Millis)) (k : Nat) : List (Nat × Millis) :=
  match l.head? with
  | some o => if namesEntry l k then l.drop ((k + 256 - o.1) % 256 + 1) else l
  | none => l

/-- The outstanding list with a new grant: at 128 entries the oldest leaves, and the entry that becomes the
oldest takes the earlier of the two issue times (R119). -/
def pushGrant (l : List (Nat × Millis)) (e : Nat × Millis) : List (Nat × Millis) :=
  if l.length < 128 then l ++ [e]
  else match l with
    | o :: n :: rest => (n.1, min o.2 n.2) :: rest ++ [e]
    | _ => [e]

/-- The age of the oldest unacknowledged grant has reached 200 ms (R120). -/
def unconfirmedDue (s : State) : Bool :=
  match s.evu.outstanding.head? with
  | some o => !s.evu.unconfirmed && decide (o.2 + 200 ≤ s.now)
  | none => false

end Sys2Proof.Machine
end

