-- ==== Sys2Proof/Machine/Engines.lean ====
section
/-! DEFINITION. The Engine Economy Unit: the slots and their transitions (R127 to R144), the idle ladder (R146
to R154), setpoints (R155), the effective mode (R158), the pump power limit (R159), the requests (R131). What
follows from the state as a level, and not from one event, is settled at the end of every event. -/

namespace Sys2Proof.Machine

/-! ### Slots -/

/-- The other engine. -/
def otherEngine : Engine → Engine
  | .e1 => .e2
  | .e2 => .e1

/-- The engine whose slot has the role LEAD (R128). -/
def leadEngine (s : State) : Engine := if s.eeu.slot1.role = .lead then .e1 else .e2

/-- The engine whose slot has the role SECOND. -/
def secondEngine (s : State) : Engine := otherEngine (leadEngine s)

/-- The states with an operation in flight, timed by the slot timer (R127). -/
def timedState (st : SlotState) : Bool :=
  st == .starting || st == .joining || st == .leaving || st == .cooldown || st == .stopping

/-- A slot changes state: the timer of the new state starts, ENGINE_SLOT is raised (R133); a slot that leaves
FAULTED loses its fault cause, one that enters it loses its retry wait. -/
def enterSlot (e : Engine) (st : SlotState) (s : State) : State :=
  let x := slotGet s e
  notify .engineSlot (engineNumber e) (if st = .faulted then .fault else .info) (some (slotCode st))
    (slotSet e { x with state := st, timer := if timedState st then some s.now else none,
                        retry := if st = .faulted then none else x.retry, cause := none } s)

/-- A slot enters FAULTED with a cause (R133). -/
def faultSlot (e : Engine) (c : FaultCause) (s : State) : State :=
  let s := enterSlot e .faulted s
  slotSet e { slotGet s e with cause := some c } s

/-- A slot's retry wait starts from 0 (R139). -/
def startRetry (e : Engine) (s : State) : State := slotSet e { slotGet s e with retry := some s.now } s

/-- WARMING below 40 °C, else READY (R129). -/
def warmState (coolant : Int) : SlotState := if coolant < 40 then .warming else .ready

/-- A no-stop flag stands (R150). -/
def noStopStands (s : State) : Bool :=
  [s.eeu.slot1, s.eeu.slot2].any fun x =>
    x.state != .unused && x.state != .faulted &&
      match x.status with
      | some st => st.state == .running && st.noStop
      | none => false

/-- A slot counts as running for fuel and run time (R160). -/
def slotRunning (x : Slot) : Bool :=
  x.state != .unused && x.state != .faulted &&
    match x.status with
    | some st => st.state == .running
    | none => false

/-! ### The shut-down actions and the ladder -/

/-- The shut-down action of one slot (R143). -/
def shutDownSlot (e : Engine) (s : State) : State :=
  match (slotGet s e).state with
  | .starting | .warming | .ready | .cooldown => enterSlot e .stopping s
  | .joining => enterSlot e .leaving s
  | .online => if (slotGet s e).retry.isNone then enterSlot e .leaving s else s
  | .unused | .stopped | .leaving | .stopping | .faulted => s

/-- The shut-down actions on both slots (R143), E1 before E2 (DESIGN CHOICE, log 41). -/
def shutDownActions (s : State) : State := shutDownSlot .e2 (shutDownSlot .e1 s)

/-- The notice of the shut-down warning (R150). -/
def warnShutdown (severity : Severity) (seconds : Nat) (s : State) : State :=
  notify .shutdownWarning 0 severity (some seconds) s

/-- The timers of the ladder when it goes to a step (R147 to R151). -/
def ladderTimersFor (l : Ladder) (s : State) : State :=
  { s with
    eeu.autoIdle := none
    eeu.lockoutTimer := none
    eeu.shutdownDelay := if l = .lowIdle then some s.now else none
    eeu.countdown := if l = .shutdownWarning then some { since := s.now, shown := 90 } else none }

/-- The ladder goes to another step, with its IDLE_STATE notice, and at SHUT_DOWN the shut-down actions (R146,
R150, R152, R154). IDLE_STATE stands before the notices of what the step brings about (DESIGN CHOICE, log 41). -/
def setLadder (l : Ladder) (s : State) : State :=
  if s.eeu.ladder = l then s
  else
    let s := notify .idleState 0 (if l = .shutDown then .warn else .info) (some (ladderCode l))
      (ladderTimersFor l { s with eeu.ladder := l })
    match l with
    | .shutdownWarning => warnShutdown .warn 90 s
    | .shutDown => shutDownActions s
    | .work | .autoIdle | .lowIdle => s

/-- The ladder returns to WORK from AUTO_IDLE, LOW_IDLE or SHUTDOWN_WARNING (R151). -/
def ladderReturn (s : State) : State :=
  match s.eeu.ladder with
  | .autoIdle | .lowIdle | .shutdownWarning => setLadder .work s
  | .work | .shutDown => s

/-- The shutdown delay has been reached and may take the ladder on: not with a delay of 0, not in HALT
(R149). -/
def shutdownDelayDue (s : State) : Bool :=
  s.eeu.ladder == .lowIdle && s.mdc.mode != .halt && s.eeu.settings.shutdown != 0 &&
    reached s.eeu.shutdownDelay (s.eeu.settings.shutdown * 60000) s.now

/-- The auto-idle timer has reached the delay (R147). -/
def autoIdleDue (s : State) : Bool :=
  s.eeu.ladder == .work && reached s.eeu.autoIdle (s.eeu.settings.autoIdle * 1000) s.now

/-- The shutdown delay timer compared with its delay at once (R149). -/
def compareShutdown (s : State) : State := if shutdownDelayDue s then setLadder .shutdownWarning s else s

/-- The auto-idle timer compared with its delay at once (R147). -/
def compareAutoIdle (s : State) : State := if autoIdleDue s then setLadder .autoIdle s else s

/-- The countdown held at 0 with no no-stop flag standing takes the ladder to SHUT_DOWN (R150). -/
def settleCountdown (s : State) : State :=
  match s.eeu.countdown with
  | some c => if c.shown = 0 && !noStopStands s then setLadder .shutDown s else s
  | none => s

/-- The timers that run while a condition holds: started in the event in which it comes to hold, stopped in
the event in which it fails (R147, R148). -/
def levelTimer (cond : Bool) (t : Option Millis) (now : Millis) : Option Millis :=
  if cond then some (t.getD now) else none

/-- The auto-idle timer and the lockout timer follow their conditions (R147, R148). -/
def settleLadderTimers (s : State) : State :=
  { s with
    eeu.autoIdle := levelTimer (s.eeu.ladder == .work && !s.eeu.idleHold && allNeutral s) s.eeu.autoIdle s.now
    eeu.lockoutTimer := levelTimer (s.eeu.ladder == .autoIdle && s.mdc.lockout == .engaged &&
      s.mdc.mode != .service) s.eeu.lockoutTimer s.now }

/-! ### Effective mode, limit, setpoints -/

/-- The lower in rank of two power modes (R156). -/
def lowerMode (a b : PowerMode) : PowerMode := if powerRank a ≤ powerRank b then a else b

/-- The effective power mode (R158); before loading completes, so in START, it is WARMUP in any case (R177), a warm-up
limit lifted there included (DEDUCED, log 37). -/
def effectiveMode (s : State) : PowerMode :=
  if s.mdc.mode = .start then .warmup
  else lowerMode (lowerMode s.eeu.settings.mode s.svu.summary.ceiling) (if s.eeu.warmup then .warmup else .peak)

/-- The effective mode formed anew, with its notice when it changes (R158). -/
def settleMode (s : State) : State :=
  let m := effectiveMode s
  if m = s.eeu.effective then s
  else notify .powerMode 0 .info (some (powerRank m)) { s with eeu.effective := m }

/-- The factor of a power mode, in percent (R156). -/
def powerFactor : PowerMode → Nat
  | .warmup => 40
  | .economy => 75
  | .standard => 90
  | .peak => 100

/-- The term of a slot in the pump power limit (R159). -/
def limitTerm (s : State) (e : Engine) : Nat :=
  if (slotGet s e).state = .online then calRated s.rts.cal e * powerFactor s.eeu.effective / 100 else 0

/-- The pump power limit (R159): 0 while the calibration status is INVALID. -/
def pumpLimit (s : State) : Nat :=
  match s.mdc.calStatus with
  | .invalid => 0
  | .valid => limitTerm s .e1 + limitTerm s .e2

/-- The speed setpoint of a slot, by the first row that applies (R155). -/
def setpoint (s : State) (e : Engine) : Nat :=
  let low := calLowIdleSpeed s.rts.cal
  if s.mdc.calStatus = .invalid then 0
  else if s.mdc.mode = .start ∨ s.mdc.mode = .halt then low
  else match (slotGet s e).state with
    | .joining | .online | .leaving =>
      match s.eeu.ladder with
      | .lowIdle | .shutdownWarning | .shutDown => low
      | .autoIdle => calAutoIdleSpeed s.rts.cal
      | .work => calModeSpeed s.rts.cal s.eeu.effective
    | .unused | .stopped | .starting | .warming | .ready | .cooldown | .stopping | .faulted => low

/-! ### Joining and leaving -/

/-- The six join terms (R141). -/
def joinTerms (s : State) : Bool :=
  let lead := leadEngine s
  let second := slotGet s (secondEngine s)
  s.eeu.engineCount == 2 && second.state != .unused &&
    decide (calRated s.rts.cal lead * 85 < s.eeu.average * 100) && s.eeu.effective != .warmup &&
    !s.svu.summary.singleEngine && s.eeu.ladder == .work && (slotGet s lead).state == .online &&
    second.retry.isNone

/-- The test of the leave hold timer (R142). It needs a PVC_STATE since the reset: the average cannot fall below
the bound before one has been formed (DEDUCED, log 16). -/
def leaveTest (s : State) : Bool :=
  s.eeu.engineCount == 2 && s.eeu.pumpDemand.isSome &&
    decide (s.eeu.average * 100 < (calRated s.rts.cal .e1 + calRated s.rts.cal .e2) * 35)

/-- A hold timer follows its test (R141, R142). -/
def levelHold (cond : Bool) (h : Hold) (now : Millis) : Hold :=
  if cond then (match h with | .stopped => .running now | .running t => .running t | .reached t => .reached t)
  else .stopped

/-- A hold timer has been taken to have reached its limit. -/
def holdReached : Hold → Bool
  | .reached _ => true
  | .stopped | .running _ => false

/-- Both hold timers follow their tests (R141, R142). -/
def settleHolds (s : State) : State :=
  { s with
    eeu.joinHold := levelHold (joinTerms s) s.eeu.joinHold s.now
    eeu.leaveHold := levelHold (leaveTest s) s.eeu.leaveHold s.now }

/-- The leave condition (R142). -/
def leaveCondition (s : State) : Bool := leaveTest s && holdReached s.eeu.leaveHold

/-- The join condition; the leave condition overrides it (R141). -/
def joinCondition (s : State) : Bool := joinTerms s && holdReached s.eeu.joinHold && !leaveCondition s

/-- A leave cause stands for the second slot (R142). -/
def leaveCause (s : State) : Bool :=
  leaveCondition s || s.svu.summary.singleEngine || s.eeu.ladder == .lowIdle ||
    s.eeu.ladder == .shutdownWarning

/-- The modes in which a second engine may start and join (R135, R136). -/
def workMode (m : PartMode) : Bool := m == .parked || m == .working || m == .service

/-- A READY slot may join, by its role (R136). -/
def mayJoin (s : State) (e : Engine) : Bool :=
  (slotGet s e).retry.isNone &&
    match (slotGet s e).role with
    | .lead => (s.mdc.mode == .parked || s.mdc.mode == .working) && s.eeu.ladder != .shutDown
    | .second => workMode s.mdc.mode && joinCondition s

/-- The transition a slot's state and the conditions then standing call for, if any (R135 to R144). HALT does not
stop an engine that runs: no leave cause acts there and an ONLINE slot stays ONLINE (R9, R144; log 22). -/
def slotMove (s : State) (e : Engine) : Option SlotState :=
  let x := slotGet s e
  let second := x.role == .second
  let closing := s.mdc.mode == .closing
  let down := s.eeu.ladder == .shutDown
  let halt := s.mdc.mode == .halt
  let leave := second && leaveCause s && !halt
  match x.state with
  | .stopped => if second && workMode s.mdc.mode && joinCondition s then some .starting else none
  | .starting => if down || closing then some .stopping else none
  | .warming => if closing || (down && second) then some .stopping else if leave then some .cooldown else none
  | .ready =>
    if closing || (down && second) then some .stopping
    else if leave then some .cooldown
    else if mayJoin s e then some .joining
    else none
  | .joining => if down || leave then some .leaving else none
  | .online => if x.retry.isNone && !halt && (down || leave) then some .leaving else none
  | .cooldown =>
    if down || closing then some .stopping
    else if second && joinCondition s then some .ready
    else none
  | .unused | .leaving | .stopping | .faulted => none

/-- One slot takes the transition called for. -/
def slotStep (e : Engine) (s : State) : State :=
  match slotMove s e with
  | some st => enterSlot e st s
  | none => s

/-- One round over both slots, the hold timers following before each. -/
def slotRound (s : State) : State := slotStep .e2 (settleHolds (slotStep .e1 (settleHolds s)))

/-- The Engine Economy Unit settled: effective mode, countdown, slots and hold timers, ladder timers, limit.
Four rounds suffice: the longest chain of transitions in one event has two steps for each slot. -/
def eeuSettle (s : State) : State :=
  let s := settleLadderTimers (settleHolds (Nat.repeat slotRound 4 (settleCountdown (settleMode s))))
  { s with eeu.limit := pumpLimit s }

/-! ### Requests -/

/-- The request that a slot's state asks (R131). -/
def askOf (st : SlotState) : EngineAsk :=
  match st with
  | .starting => .start
  | .stopping => .stop
  | .unused | .stopped | .warming | .ready | .joining | .online | .leaving | .cooldown | .faulted => .none

/-- The ENGINE_REQUEST of a slot as things stand; none for an UNUSED slot (R131, R155). -/
def requestOf (s : State) (e : Engine) : Option EngineRequest :=
  if (slotGet s e).state = .unused then none
  else some { ask := askOf (slotGet s e).state, speed := setpoint s e }

/-- Put a request frame of an engine in link A's buffer, or take it out; a newer one replaces the one waiting
(R181). -/
def bufferRequest (e : Engine) (r : Option EngineRequest) (s : State) : State :=
  let f := r.map (TxFrame.engineRequest e)
  match e with
  | .e1 => { s with lnc.txReq1 := f }
  | .e2 => { s with lnc.txReq2 := f }

/-- Hand a slot's request to the LNC; its 200 ms timer restarts (R131). -/
def handRequest (e : Engine) (s : State) : State :=
  let r := requestOf s e
  bufferRequest e r
    (slotSet e { slotGet s e with request := r, requestTimer := r.map fun _ => s.now } s)

/-- A request whose fields changed is handed over at once (R131). The fields are compared once, at the end of the event: one
that changed and came back within it is not handed, and its 200 ms run on (DESIGN CHOICE, log 42). -/
def settleRequest (e : Engine) (s : State) : State :=
  if (slotGet s e).request = requestOf s e then s else handRequest e s

/-- Both requests. -/
def settleRequests (s : State) : State := settleRequest .e2 (settleRequest .e1 s)

/-! ### Engine frames, engine count, lead -/

/-- The move of a slot at a status RUNNING (R129), and the end of SHUT_DOWN when it is the lead's from STOPPED
(R152), the ENGINE_SLOT notice before IDLE_STATE (DESIGN CHOICE, log 41). -/
def statusRunning (e : Engine) (coolant : Int) (s : State) : State :=
  match (slotGet s e).state with
  | .stopped =>
    let s' := enterSlot e (warmState coolant) s
    if (slotGet s e).role = .lead ∧ s.eeu.ladder = .shutDown ∧ s.mdc.mode ≠ .closing then setLadder .work s'
    else s'
  | .starting => enterSlot e (warmState coolant) s
  | .warming => if coolant < 40 then s else enterSlot e .ready s
  | .unused | .ready | .joining | .online | .leaving | .cooldown | .stopping | .faulted => s

/-- The move of a slot at a status STOPPED or CRANKING (R129). -/
def statusNotRunning (e : Engine) (stopped : Bool) (s : State) : State :=
  match (slotGet s e).state with
  | .warming | .ready | .joining | .online | .leaving | .cooldown | .faulted => enterSlot e .stopped s
  | .stopping => if stopped then enterSlot e .stopped s else s
  | .unused | .stopped | .starting => s

/-- The notice START_FAILED (R135), raised after the slot's ENGINE_SLOT (DESIGN CHOICE, log 41). -/
def startFailed (e : Engine) (s : State) : State := notify .startFailed (engineNumber e) .warn none s

/-- The move of a slot at a status FAULT (R129). -/
def statusFault (e : Engine) (s : State) : State :=
  match (slotGet s e).state with
  | .faulted | .unused => s
  | .starting => startFailed e (faultSlot e .faultStatus s)
  | .stopped | .warming | .ready | .joining | .online | .leaving | .cooldown | .stopping =>
    faultSlot e .faultStatus s

/-- The engine state with a code (R182). -/
def runStateOfCode : Nat → Option RunState
  | 0 => some .stopped
  | 1 => some .cranking
  | 2 => some .running
  | 3 => some .fault
  | _ => none

/-- An ENGINE_STATUS taken by its slot (R129). -/
def takeStatus (e : Engine) (st : EngineStatus) (s : State) : State :=
  let s := slotSet e { slotGet s e with status := some st, silence := some s.now } s
  match st.state with
  | .running => statusRunning e st.coolant s
  | .stopped => statusNotRunning e true s
  | .cranking => statusNotRunning e false s
  | .fault => statusFault e s

/-- The PVC's report of one group (R134), ENGINE_SLOT before GROUP_DROPPED (DESIGN CHOICE, log 41). A slot that was made LEAD while LEAVING, by a commit of engine count 1, cools
down for the 180 s of R137 like any other and then stops (DESIGN CHOICE, log 36). -/
def groupReport (e : Engine) (engaged : Bool) (s : State) : State :=
  match (slotGet s e).state, engaged with
  | .joining, true => enterSlot e .online s
  | .leaving, false => enterSlot e .cooldown s
  | .online, false => notify .groupDropped (engineNumber e) .warn none (startRetry e (enterSlot e .ready s))
  | _, _ => s

/-- The power accumulator and average after a demand (R140). -/
def takeDemand (demand : Nat) (s : State) : State :=
  let p := min demand 4000
  let acc := s.eeu.accumulator - s.eeu.accumulator / 16 + p
  { s with eeu.accumulator := acc, eeu.average := acc / 16, eeu.pumpDemand := some p }

/-- The warm-up limit judged at a PVC_STATE (R157); it stands from the reset, so the first one needs no case of
its own. -/
def takeOil (oil : Int) (s : State) : State :=
  { s with
    eeu.oilTemp := some oil
    eeu.warmup := if oil < 20 then true else if 30 ≤ oil then false else s.eeu.warmup }

/-- The engine count applied from the calibration (R127): two while the calibration status is INVALID. -/
def appliedCount (s : State) : Nat := if s.mdc.calStatus = .invalid then 2 else calEngineCount s.rts.cal

/-- Slot E2 made UNUSED (R127). -/
def unuseE2 (s : State) : State :=
  if s.eeu.slot2.state = .unused then s
  else
    let s := enterSlot .e2 .unused s
    { s with eeu.slot2.retry := none, eeu.slot2.silence := none, eeu.slot2.status := none }

/-- Slot E2 brought back as STOPPED (R127). -/
def reuseE2 (s : State) : State :=
  if s.eeu.slot2.state = .unused then
    let s := enterSlot .e2 .stopped s
    { s with eeu.slot2.silence := some s.now }
  else s

/-- The lead engine set (R128). -/
def setLead (e : Engine) (s : State) : State :=
  { s with
    eeu.slot1.role := if e = .e1 then .lead else .second
    eeu.slot2.role := if e = .e2 then .lead else .second }

/-- The engine count applied at the end of loading and at a calibration commit (R127, R128). -/
def applyEngineCount (s : State) : State :=
  let n := appliedCount s
  let s := { s with eeu.engineCount := n }
  if n = 1 then setLead .e1 (unuseE2 s) else reuseE2 s

/-- The choice of the lead at the end of loading (R128): the engine with fewer run seconds, E1 on a tie or
with one engine. -/
def chooseLead (s : State) : State :=
  if s.eeu.engineCount = 2 ∧ s.svu.meters.engine2Run < s.svu.meters.engine1Run then setLead .e2 s
  else setLead .e1 s

/-- The state that ENGINE_RESET gives a slot by its latest status (R16). -/
def stateByStatus : Option EngineStatus → SlotState
  | none => .stopped
  | some st => match st.state with
    | .stopped | .cranking => .stopped
    | .running => warmState st.coolant
    | .fault => .faulted

/-- ENGINE_RESET on one slot (R16). -/
def resetSlot (e : Engine) (s : State) : State :=
  let x := slotGet s e
  if x.state = .unused then s
  else
    let s := slotSet e { x with timer := none, retry := none, silence := some s.now } s
    if x.state = .faulted ∧ x.cause = some .silent then s
    else
      let st := stateByStatus x.status
      if st = x.state then s
      else if st = .faulted then faultSlot e .faultStatus s
      else enterSlot e st s

/-- ENGINE_RESET on the slots and then the ladder (R16; DESIGN CHOICE for that order, log 41). -/
def restartEngines (s : State) : State :=
  let s := setLadder .work (resetSlot .e2 (resetSlot .e1 s))
  ladderTimersFor .work { s with eeu.idleHold := false }

/-- Entry to CLOSING: the ladder to SHUT_DOWN, the idle hold cleared, the shut-down actions on both slots
(R10, R143). -/
def closeEngines (s : State) : State :=
  let s := { s with eeu.idleHold := false }
  if s.eeu.ladder = .shutDown then shutDownActions s else setLadder .shutDown s

/-- Entry to SERVICE: a ladder at LOW_IDLE or SHUTDOWN_WARNING returns to AUTO_IDLE (R7). -/
def serviceLadder (s : State) : State :=
  match s.eeu.ladder with
  | .lowIdle | .shutdownWarning => setLadder .autoIdle s
  | .work | .autoIdle | .shutDown => s

end Sys2Proof.Machine
end

