-- ==== Sys2Proof/Machine/Service.lean ====
section
/-! DEFINITION. The Service Unit: increments (R163, R164), item states (R170, R171), reminders (R172), the
restriction summary (R177), the calendar comparison (R168); and the feeds of the Engine Economy Unit (R160,
R161). -/

namespace Sys2Proof.Machine

/-! ### Items and the restriction summary -/

/-- The top of a meter (R162). -/
def meterTop : Nat := 99999999

/-- The top of next_due (R169). -/
def nextDueTop : Nat := 109999999

/-- The state that a meter value gives an item (R170); the differences are exact. -/
def itemStateAt (d : ItemDef) (m : Nat) : ItemState :=
  if (m : Int) < (d.nextDue : Int) - d.lead then .ok
  else if m < d.nextDue then .approaching
  else if m < d.nextDue + d.grace then .due
  else .overdue

/-- The item at an index. -/
def itemAt (s : State) (k : Fin 32) : Option Item := s.svu.items[k]

/-- The state with the item at an index replaced. -/
def setItem (k : Fin 32) (i : Option Item) (s : State) : State :=
  { s with svu.items := s.svu.items.set k i }

/-- The severity of an ITEM_STATE notice (R171). -/
def itemSeverity : ItemState → Severity
  | .ok | .approaching => .info
  | .due => .advise
  | .overdue => .warn

/-- The ITEM_STATE notice (R171, R172). -/
def notifyItem (k : Fin 32) (st : ItemState) (s : State) : State :=
  notify .itemState k (itemSeverity st) (some (itemStateCode st)) s

/-- An item takes a state; a change clears its acknowledgement and is notified (R171). -/
def moveItem (k : Fin 32) (i : Item) (st : ItemState) (s : State) : State :=
  if i.state = st then setItem k (some i) s
  else notifyItem k st (setItem k (some { i with state := st, acked := false }) s)

/-- Evaluate the item at an index against its meter (R170). -/
def evaluateItem (k : Fin 32) (s : State) : State :=
  match itemAt s k with
  | some i => moveItem k i (itemStateAt i.defn (meterGet s.svu.meters i.defn.meter)) s
  | none => s

/-- The indices of the item table. -/
def allItems : List (Fin 32) := List.finRange 32

/-- Evaluate the items that satisfy a test (R163, R169), each with its notice before the next, in index order: R172 gives
that order to reminders alone (DESIGN CHOICE, log 8). -/
def evaluateItems (p : Item → Bool) (s : State) : State :=
  allItems.foldl (fun s k => match itemAt s k with
    | some i => if p i then evaluateItem k s else s
    | none => s) s

/-- Some OVERDUE item carries a restriction (R177). -/
def overdueWith (items : ItemTable) (r : Restriction) : Bool :=
  items.toList.any fun it => match it with
    | some i => i.state == .overdue && i.defn.restriction == r
    | none => false

/-- The restriction summary of an item table (R177). -/
def summaryOf (items : ItemTable) : Summary :=
  { ceiling := if overdueWith items .powerEconomy then .economy
      else if overdueWith items .powerStandard then .standard else .peak
    singleEngine := overdueWith items .singleEngine
    slewCreep := overdueWith items .slewCreep }

/-- The value of a RESTRICTION notice (R177). -/
def summaryValue (x : Summary) : Nat := powerRank x.ceiling + 4 * bit x.singleEngine + 8 * bit x.slewCreep

/-- The restriction summary formed anew; a change is notified and reaches the slew creep terms and the caps
(R177, R103, R114). The EEU reads the summary when the event is settled. -/
def formSummary (s : State) : State :=
  let x := summaryOf s.svu.items
  if x = s.svu.summary then s
  else reformCaps (notify .restriction 0 (if x = .clear then .info else .warn) (some (summaryValue x))
    { s with svu.summary := x })

/-! ### Increments -/

/-- In CLOSING a changed meter asks for METERS again once the write of the entry save has begun (R165). -/
def closingSave (s : State) : State :=
  if s.mdc.mode = .closing ∧ s.svu.entrySaveBegun then askSave .meters s else s

/-- A meter takes a value; a change evaluates the items that track it (R163). -/
def setMeter (m : Meter) (v : Nat) (s : State) : State :=
  if meterGet s.svu.meters m = v then s
  else evaluateItems (fun i => i.defn.meter == m)
    (closingSave { s with svu.meters := meterSet s.svu.meters m v })

/-- At the end of what an event that began in state `s0` does to the meters, once every item it touches has been
evaluated: the restriction summary formed anew if a meter has changed (R163, R171). Its RESTRICTION notice so stands
after every other notice of what the event does to the meters (DESIGN CHOICE, log 8). -/
def settleSummary (s0 s : State) : State := if s.svu.meters = s0.svu.meters then s else formSummary s

/-- An amount added to a meter, saturating (R163). -/
def addMeter (m : Meter) (n : Nat) (s : State) : State :=
  setMeter m (min meterTop (meterGet s.svu.meters m + n)) s

/-- The remainder of a meter (R162). -/
def remainderGet (s : State) : Meter → Nat
  | .fuel => s.svu.fuelRem
  | .payload => s.svu.payloadRem
  | .slewTravel => s.svu.slewRem
  | .engine1Run | .engine2Run | .pumpWork | .oilHeat | .passes | .calendar | .violations => 0

/-- The state with the remainder of a meter replaced. -/
def remainderSet (m : Meter) (v : Nat) (s : State) : State :=
  match m with
  | .fuel => { s with svu.fuelRem := v }
  | .payload => { s with svu.payloadRem := v }
  | .slewTravel => { s with svu.slewRem := v }
  | .engine1Run | .engine2Run | .pumpWork | .oilHeat | .passes | .calendar | .violations => s

/-- The carry unit of a meter: 1 for a meter without a remainder (R163). -/
def carryUnit : Meter → Nat
  | .fuel | .payload => 1000
  | .slewTravel => 36000
  | .engine1Run | .engine2Run | .pumpWork | .oilHeat | .passes | .calendar | .violations => 1

/-- An increment applied to a loaded meter (R163). -/
def applyIncrement (m : Meter) (n : Nat) (s : State) : State :=
  if meterGet s.svu.meters m = meterTop then s
  else
    let sum := remainderGet s m + n
    addMeter m (sum / carryUnit m) (remainderSet m (sum % carryUnit m) s)

/-- An increment handed to the SVU: applied at once, or held until loading completes (R163, R164). -/
def increment (m : Meter) (n : Nat) (s : State) : State :=
  if s.svu.loaded then applyIncrement m n s
  else { s with svu.sums := meterSet s.svu.sums m (meterGet s.svu.sums m + n) }

/-- The pending sums applied as one increment each (R164). -/
def applySums (s : State) : State :=
  let sums := s.svu.sums
  allMeters.foldl (fun s m => applyIncrement m (meterGet sums m) s) { s with svu.sums := .zero }

/-- The fuel reading in mL (R58). -/
def fuelReading (s : State) : Nat := s.svu.meters.fuel * 1000 + s.svu.fuelRem

/-! ### The calendar and the reminders -/

/-- The calendar comparison: whole days past the day mark are counted and the mark moves forward (R168). -/
def compareCalendar (s : State) : State :=
  match s.clock.time, s.svu.dayMark with
  | some t, some d =>
    if d + 86400 ≤ t then
      increment .calendar ((t - d) / 86400) { s with svu.dayMark := some (d + (t - d) / 86400 * 86400) }
    else s
  | _, _ => s

/-- The reminders of every unacknowledged item that is not OK, in index order (R172). -/
def remind (s : State) : State :=
  allItems.foldl (fun s k => match itemAt s k with
    | some i => if i.state != .ok && !i.acked then notifyItem k i.state s else s
    | none => s) s

/-! ### The feeds -/

/-- The fuel rate that a slot adds at a fuel timer expiry (R160). -/
def slotFuel (x : Slot) : Nat :=
  if slotRunning x then (match x.status with | some st => st.fuelRate * 100 | none => 0) else 0

/-- The fuel timer's expiry (R160). -/
def feedFuel (s : State) : State :=
  let sum := s.eeu.fuelRem + slotFuel s.eeu.slot1 + slotFuel s.eeu.slot2
  let s' := { s with eeu.fuelRem := sum % 36000, eeu.fuelTimer := s.eeu.fuelTimer.map (· + 100) }
  if sum / 36000 = 0 then s' else settleSummary s (increment .fuel (sum / 36000) s')

/-- The PVC silence timer has not reached 500 ms (R161, R187). -/
def pvcHeard (s : State) : Bool := !reached s.lnc.pvcTimer 500 s.now

/-- The weight of a second of oil heat (R161). -/
def oilWeight : Option Int → Nat
  | none => 1
  | some t => if t < 85 then 1 else if t < 95 then 2 else 4

/-- A feed increment handed when its condition holds. -/
def feedIf (c : Bool) (m : Meter) (n : Nat) (s : State) : State := if c then increment m n s else s

/-- Pump work counts (R161). -/
def pumpWorks (s : State) : Bool := decide (50 ≤ s.eeu.pumpDemand.getD 0) && pvcHeard s

/-- The feed timer's expiry (R161). Its increments reach the SVU one after another, ENGINE1_RUN, ENGINE2_RUN, PUMP_WORK,
OIL_HEAT, each with its items and their notices (DESIGN CHOICE, log 8). -/
def feedRuns (s : State) : State :=
  let r1 := slotRunning s.eeu.slot1
  let r2 := slotRunning s.eeu.slot2
  settleSummary s (feedIf (r1 || r2) .oilHeat (oilWeight s.eeu.oilTemp)
    (feedIf (pumpWorks s) .pumpWork 1 (feedIf r2 .engine2Run 1 (feedIf r1 .engine1Run 1
      { s with eeu.feedTimer := s.eeu.feedTimer.map (· + 1000) }))))

end Sys2Proof.Machine
end

