-- ==== Sys2Proof/Machine/Payload.lean ====
section
/-! DEFINITION. The Payload Unit: weighing (R65 to R69), the pass detector (R60 to R64), passes and trucks (R70
to R77). -/

namespace Sys2Proof.Machine

/-! ### Weighing -/

/-- The mass before the clamp of a weigh sample, from pressures, boom angle and distance r (R66, R67, R68). -/
def rawMass (cal : Calibration) (pH pR boom r : Int) : Int :=
  let force := truncDiv (pH * calHeadArea cal - pR * calRodArea cal) 1000
  let arm := interpolate (calLeverArm cal) (-4500) 1500 boom
  let moment := truncDiv (force * arm) 1000
  let empty := interpolate (calEmptyMoment cal) 2000 2000 r
  roundDiv ((moment - empty) * 1000000) (9807 * r).toNat

/-- A weigh sample: the clamped mass, and the overload mark of one clamped from above (R68). -/
def weigh (cal : Calibration) (pH pR boom r : Int) : Sample :=
  let m := rawMass cal pH pR boom r
  { mass := (clampInt 0 60000 m).toNat, overload := decide (60000 < m) }

/-- The weigh sample that a pose in CARRY yields, if any (R65). -/
def weighSample (s : State) : Option Sample :=
  let p := s.gmu.pose
  match p.coords, p.boom, s.siu.boomPress.accepted with
  | some c, some boom, some pr =>
    if p.plane != .invalid && s.siu.boomPress.state == .valid && decide (1000 ≤ c.x3 - c.xp) then
      some (weigh s.rts.cal pr.v1 pr.v2 boom (c.x3 - c.xp))
    else none
  | _, _, _ => none

/-- A sample joins the list, which keeps the latest 32 (R69). -/
def joinSample (l : List Sample) (x : Sample) : List Sample :=
  if l.length < 32 then l ++ [x] else l.drop 1 ++ [x]

/-- The pose offered to the accumulator (R65, R69). -/
def offerSample (s : State) : State :=
  match weighSample s with
  | some x => { s with plu.samples := joinSample s.plu.samples x }
  | none => s

/-! ### Trucks -/

/-- The payloads of the weighed passes. -/
def weighed (l : List Pass) : List Nat := l.filterMap (·.payload)

/-- The total has reached the target; never with no target (R73). -/
def targetReached (total : Nat) : Option Nat → Bool
  | some t => decide (t ≤ total)
  | none => false

/-- One more usual pass would exceed the target by more than 5 % (R73). -/
def lastPassDue (t : Truck) : Bool :=
  match t.target with
  | none => false
  | some target =>
    let w := weighed t.passes
    !w.isEmpty && decide (t.total < target) && decide (target * 105 / 100 < t.total + w.sum / w.length)

/-- The two tests against the target, given whether the first held before the event (R73). -/
def targetTests (before : Bool) (t : Truck) (s : State) : State :=
  let s := if targetReached t.total t.target && !before then
    notify .targetReached t.number .advise (some t.total) s else s
  if lastPassDue t then notify .lastPass t.number .advise (some t.total) s else s

/-- A truck number's successor (R58, R71). -/
def nextTruckNumber (n : Nat) : Nat := if n = 65535 then 0 else n + 1

/-- The next truck number after a list of summaries (R58). -/
def numberAfter (l : List TruckSummary) : Nat :=
  match l.getLast? with
  | some x => nextTruckNumber x.number
  | none => 1

/-- The truck target of the settings; 0 is none (R71, R74). -/
def settingTarget (s : State) : Option Nat :=
  if s.eeu.settings.truckTarget = 0 then none else some s.eeu.settings.truckTarget

/-- A truck with its fuel used and fuel per tonne (R76 step 1). -/
def summaryOfTruck (t : Truck) (now : Option Nat) : TruckSummary :=
  let last := (t.passes.getLast?.map (·.fuelAtDump)).getD t.fuelMark
  let base : TruckSummary :=
    { number := t.number, passCount := t.passes.length, total := t.total, fuelUsed := 0, fuelPerTonne := none,
      overload := t.overload, closedAt := now }
  if last < t.fuelMark then base
  else
    let used := last - t.fuelMark
    { base with fuelUsed := used, fuelPerTonne := if t.total = 0 then none else some (used * 1000 / t.total) }

/-- A summary joins the completed-truck list, which keeps the latest 8 (R77). -/
def joinSummary (l : List TruckSummary) (x : TruckSummary) : List TruckSummary :=
  if l.length < 8 then l ++ [x] else l.drop 1 ++ [x]

/-- Close a truck: meters, summary, save of TRUCKS, notice (R76, R77). -/
def closeTruck (t : Truck) (s : State) : State :=
  let s := increment .passes t.passes.length (increment .payload t.total s)
  let s := askSave .trucks
    { s with plu.completed := joinSummary s.plu.completed (summaryOfTruck t s.clock.time) }
  let s := notify .truckClosed t.number (if t.overload then .warn else .info) (some t.total) s
  { s with plu.truck := none }

/-- Close the open truck, if there is one (R75). -/
def closeOpenTruck (s : State) : State :=
  match s.plu.truck with
  | some t => closeTruck t s
  | none => s

/-- The truck that a pass joins: the open one, or a new one (R71). -/
def truckFor (s : State) : Truck :=
  match s.plu.truck with
  | some t => t
  | none => { number := s.plu.nextNumber, target := settingTarget s, passes := [], total := 0,
              fuelMark := s.plu.carryFuel.getD 0, overload := false }

/-- The severity of a PASS_WEIGHED notice (R72). -/
def passSeverity (p : Pass) : Severity :=
  if p.overload then .warn else if p.payload.isNone then .advise else .info

/-- A pass joins its truck, with its notices, the target tests and the closing of a full truck (R71, R72, R73,
R75). -/
def joinPass (pass : Pass) (s : State) : State :=
  let t := truckFor s
  let pass := { pass with number := t.passes.length + 1 }
  let t' := { t with passes := t.passes ++ [pass], total := t.total + pass.payload.getD 0,
                     overload := t.overload || pass.overload }
  let next := if s.plu.truck.isSome then s.plu.nextNumber else nextTruckNumber s.plu.nextNumber
  let s := { s with plu.truck := some t', plu.nextNumber := next }
  let s := notify .passWeighed t'.number (passSeverity pass) (some (pass.payload.getD 0)) s
  let s := targetTests (targetReached t.total t.target) t' s
  if t'.passes.length = 12 then closeTruck t' s else s

/-! ### The detector -/

/-- The mean of the sample masses rounded to the nearest, halves up (R70). -/
def meanMass (l : List Sample) : Nat := (2 * (l.map (·.mass)).sum + l.length) / (2 * l.length)

/-- The pass record that the accumulator gives at a dump (R70); its number is given when it joins. -/
def passOf (s : State) : Pass :=
  { number := 0, payload := if 8 ≤ s.plu.samples.length then some (meanMass s.plu.samples) else none,
    overload := s.plu.samples.any (·.overload),
    carryMs := min 65535 (s.gmu.pose.time.getD 0 - s.plu.carryStart.getD 0), fuelAtDump := fuelReading s }

/-- The detector in READY with an empty accumulator (R60, R62, R63, R64). -/
def detectorReady (s : State) : State :=
  { s with plu.detector := .ready, plu.samples := [], plu.carryStart := none, plu.carryFuel := none }

/-- A rate is valid and at or above a bound. -/
def rateAtLeast (r : Option Int) (b : Int) : Bool := (r.map fun v => decide (b ≤ v)).getD false

/-- A rate is valid and at or below a bound. -/
def rateAtMost (r : Option Int) (b : Int) : Bool := (r.map fun v => decide (v ≤ b)).getD false

/-- The bucket is filled: the relative bucket angle is at or above the curl threshold (R61). -/
def bucketFilled (s : State) : Bool :=
  match s.gmu.pose.bucket, s.gmu.pose.stick with
  | some k, some st => decide (calCurl s.rts.cal ≤ norm180 (k - st))
  | _, _ => false

/-- Entry to CARRY (R61). -/
def startCarry (s : State) : State :=
  { s with plu.detector := .carry, plu.samples := [], plu.carryStart := s.gmu.pose.time,
           plu.carryFuel := some (fuelReading s) }

/-- Steps 2 and 3 of a pose that reaches the detector (R60 to R63). -/
def detectPass (s : State) : State :=
  let p := s.gmu.pose
  match s.plu.detector with
  | .ready => if rateAtLeast p.boomRate 300 && bucketFilled s then offerSample (startCarry s) else s
  | .carry =>
    if rateAtMost p.bucketRate (-2000) then joinPass (passOf s) { s with plu.detector := .return }
    else if rateAtMost p.boomRate (-300) then detectorReady s
    else offerSample s
  | .return => if rateAtMost p.boomRate (-300) then detectorReady s else s

/-- A pose at the Payload Unit (R60, R64). -/
def payloadPose (s : State) : State :=
  if s.mdc.mode = .closing then s
  else if s.gmu.pose.plane = .invalid then detectorReady s
  else detectPass s

/-- The truck target changed in SETTINGS while a truck is open (R74). -/
def retargetTruck (s : State) : State :=
  match s.plu.truck with
  | some t =>
    let t' := { t with target := settingTarget s }
    targetTests (targetReached t.total t.target) t' { s with plu.truck := some t' }
  | none => s

end Sys2Proof.Machine
end

