-- ==== Sys2Proof/Machine/Flags.lean ====
section
/-! DEFINITION. Conditions, the fault latch and the fault line (R2, R48, R86, R120, R125, R133, R171, R187,
R190, R195). -/

namespace Sys2Proof.Machine

/-- The conditions in the order of R190's table. -/
def allConditions : List Condition :=
  [.storeError, .fenceDataLost, .poseInvalid, .grantUnconfirmed, .pvcSilent, .responseFail, .engineFault,
    .itemOverdue]

/-- POSE_INVALID (R48): in WORKING, with a pose published since the reset, either part INVALID. -/
def poseInvalid (s : State) : Bool :=
  s.mdc.mode == .working && s.gmu.pose.seq != 0 && (s.gmu.pose.plane == .invalid || s.gmu.pose.slew == .invalid)

/-- RESPONSE_FAIL (R125): some function's hold is set. -/
def responseFailStands (s : State) : Bool := (perFnList s.evu.caps).any (·.hold)

/-- ENGINE_FAULT (R133): some slot is FAULTED. -/
def engineFaultStands (s : State) : Bool := s.eeu.slot1.state == .faulted || s.eeu.slot2.state == .faulted

/-- ITEM_OVERDUE (R171): some item is OVERDUE. -/
def itemOverdueStands (s : State) : Bool :=
  s.svu.items.toList.any fun it => match it with
    | some i => i.state == .overdue
    | none => false

/-- Whether a condition of R190 is present. -/
def standing (s : State) : Condition → Bool
  | .storeError => !s.rts.failed.isEmpty
  | .fenceDataLost => s.evu.dataLost
  | .poseInvalid => poseInvalid s
  | .grantUnconfirmed => s.evu.unconfirmed
  | .pvcSilent => s.lnc.pvcSilent
  | .responseFail => responseFailStands s
  | .engineFault => engineFaultStands s
  | .itemOverdue => itemOverdueStands s

/-- The bit of a maskable condition in the fault mask (R192); none for the two that are always counted. -/
def maskBit : Condition → Option Nat
  | .storeError | .fenceDataLost => none
  | .poseInvalid => some 0
  | .grantUnconfirmed => some 1
  | .pvcSilent => some 2
  | .responseFail => some 3
  | .engineFault => some 4
  | .itemOverdue => some 5

/-- Whether the latch counts a condition (R190): always, by the mask, or all while the calibration status is
INVALID. -/
def counted (s : State) (c : Condition) : Bool :=
  match maskBit c with
  | none => true
  | some b => s.mdc.calStatus == .invalid || (calFaultMask s.rts.cal).testBit b

/-- The latch with the conditions that satisfy `p` added, in the order of R190. -/
def latchAdd (latch : List Condition) (p : Condition → Bool) : List Condition :=
  allConditions.filter fun c => latch.contains c || p c

/-- A condition that has arisen since `before` and is counted latches (R190). -/
def latchArisen (before s : State) : State :=
  { s with lnc.latch := latchAdd s.lnc.latch fun c => standing s c && !standing before c && counted s c }

/-- A calibration commit latches each condition then standing whose mask bit is now set (R190). -/
def latchByMask (s : State) : State :=
  { s with lnc.latch := latchAdd s.lnc.latch fun c =>
      standing s c && (match maskBit c with | some b => (calFaultMask s.rts.cal).testBit b | none => false) }

/-- The FLT line is asserted (R190, R12): the latch holds a fault, or the mode is START or HALT; released otherwise,
so in SLEEP and on a part that is in no mode, held without supply or in reset. -/
def faultLine (s : State) : Bool :=
  running s && match s.mdc.mode with
    | .sleep => false
    | .start | .halt => true
    | .parked | .working | .service | .closing => !s.lnc.latch.isEmpty

/-- CLOCK_INVALID (R196). -/
def clockInvalid (s : State) : Bool := s.clock.time.isNone

end Sys2Proof.Machine
end

