-- ==== Sys2Proof/Machine/Staging.lean ====
section
/-! DEFINITION. The staged subject: its canonical form and CRC (R99, R182), and the edits of a fence set, an
item and the calibration block (R95, R96, R97). -/

namespace Sys2Proof.Machine

/-! ### Canonical forms (R182) -/

/-- The code of a planar fence kind (R182). -/
def planarCode : PlanarKind → Nat
  | .ceiling => 1
  | .floor => 2
  | .reach => 3

/-- The 12 bytes of a fence entry (R182). -/
def canonicalFence : Option Fence → List Byte
  | none => List.replicate 12 0
  | some f => match f.shape with
    | .planar k limit a =>
      toBytes 1 (planarCode k) ++ toBytes 1 (bit f.enabled + 2 * bit a.isSome) ++ toBytes 2 (unsigned 2 limit) ++
        toBytes 2 ((a.map (·.first)).getD 0) ++ toBytes 2 f.margin ++ toBytes 1 f.creep ++
        toBytes 2 ((a.map (·.last)).getD 0) ++ [0]
    | .sector r =>
      toBytes 1 4 ++ toBytes 1 (bit f.enabled) ++ toBytes 2 r.first ++ toBytes 2 r.last ++ toBytes 2 f.margin ++
        toBytes 1 f.creep ++ [0, 0, 0]

/-- The 24 bytes of an item (R182). -/
def canonicalItem : Option ItemDef → List Byte
  | none => List.replicate 24 0
  | some d => toBytes 2 d.label ++ toBytes 1 (meterCode d.meter) ++ toBytes 4 d.interval ++ toBytes 4 d.lead ++
      toBytes 4 d.grace ++ toBytes 4 d.lastDone ++ toBytes 4 d.nextDue ++ toBytes 1 (restrictionCode d.restriction)

/-- The calibration block: each field in code order, 4 bytes signed (R182, R192). -/
def canonicalCalibration (c : Calibration) : List Byte :=
  c.fields.toList.flatMap fun v => toBytes 4 (unsigned 4 v)

/-- The canonical form of a staged subject (R99). -/
def canonicalForm : Staged → List Byte
  | .fenceSet _ entries => entries.toList.flatMap canonicalFence
  | .item _ content _ _ => canonicalItem content
  | .calibration c => canonicalCalibration c

/-- The CRC-16 that the part computes over a staged subject (R99). -/
def stagedCrc (x : Staged) : Nat := (crc16 (canonicalForm x)).toNat

/-! ### Fence edits -/

/-- The applicability sector that an entry holds. -/
def applicability : Option Fence → Option Sector
  | some { shape := .planar _ _ a, .. } => a
  | some { shape := .sector _, .. } => none
  | none => none

/-- The planar kind with a code (R182). -/
def planarOfCode : Nat → Option PlanarKind
  | 1 => some .ceiling
  | 2 => some .floor
  | 3 => some .reach
  | _ => none

/-- A fence kind code that exists (R95). -/
def fenceKindExists (code : Nat) : Bool := decide (1 ≤ code) && decide (code ≤ 4)

/-- An entry written and the answer over its arguments. -/
structure Edited (α : Type) where
  value : α
  answer : Answer

/-- The entry that FENCE_WRITE writes over an old one, from the arguments of both frames (R95, R184). -/
def writtenFence (old : Option Fence) (h : HalfWrite) (word1 word2 : Nat) : Edited Fence :=
  let creep := clampArg 5 50 h.creep
  match planarOfCode h.kind with
  | some k =>
    let limit := clampArg (-32767) 32767 (signed 2 word1)
    let margin := clampArg 100 5000 h.margin
    { value := { shape := .planar k limit.value (applicability old), enabled := h.enabled,
                 margin := margin.value.toNat, creep := creep.value.toNat }
      answer := clampAnswer [limit, margin, creep] }
  | none =>
    let first := clampArg 0 35999 word1
    let last := clampArg 0 35999 word2
    let margin := clampArg 100 4500 h.margin
    { value := { shape := .sector ⟨first.value.toNat, last.value.toNat⟩, enabled := h.enabled,
                 margin := margin.value.toNat, creep := creep.value.toNat }
      answer := clampAnswer [first, last, margin, creep] }

/-- FENCE_SECTOR on an entry (R96): none where the entry or the form refuses it. -/
def sectoredFence (old : Option Fence) (form aStart aEnd : Nat) : Option (Edited Fence) :=
  match old with
  | some f => match f.shape with
    | .planar k limit _ =>
      if form = 0 then some { value := { f with shape := .planar k limit none }, answer := plain .accepted }
      else if form = 1 then
        let a := clampArg 0 35999 aStart
        let b := clampArg 0 35999 aEnd
        some { value := { f with shape := .planar k limit (some ⟨a.value.toNat, b.value.toNat⟩) }
               answer := clampAnswer [a, b] }
      else none
    | .sector _ => none
  | none => none

/-! ### Item edits -/

/-- A staged item record made from EMPTY by its first write (R97); last_done and next_due, to which the rule
gives no value, start at 0 (DESIGN CHOICE, log 17). -/
def freshItemDef : ItemDef :=
  { label := 0, meter := .engine1Run, interval := 1, lead := 0, grace := 0, lastDone := 0, nextDue := 0,
    restriction := .none }

/-- A staged item definition with its two written-marks. -/
structure StagedItem where
  defn : ItemDef
  lastDoneWritten : Bool
  nextDueWritten : Bool
deriving DecidableEq, Repr

/-- The write of one field of a staged item, after clamping (R97, R169, R182): none for a field or a code that
does not exist. -/
def writtenItem (x : StagedItem) (field : Nat) (v : Int) : Option (Edited StagedItem) :=
  let clamped := fun (lo hi : Int) (g : Nat → StagedItem) =>
    let c := clampArg lo hi v
    some ({ value := g c.value.toNat, answer := clampAnswer [c] } : Edited StagedItem)
  let d := x.defn
  match field with
  | 0 => clamped 0 65535 fun n => { x with defn := { d with label := n } }
  | 1 => if v < 0 then none
    else (meterOfCode v.toNat).map fun m => { value := { x with defn := { d with meter := m } }, answer := plain .accepted }
  | 2 => clamped 1 10000000 fun n =>
      { x with defn := { d with interval := n, lead := min d.lead n, grace := min d.grace n } }
  | 3 => clamped 0 d.interval fun n => { x with defn := { d with lead := n } }
  | 4 => clamped 0 d.interval fun n => { x with defn := { d with grace := n } }
  | 5 => clamped 0 99999999 fun n => { x with defn := { d with lastDone := n }, lastDoneWritten := true }
  | 6 => clamped 0 109999999 fun n => { x with defn := { d with nextDue := n }, nextDueWritten := true }
  | 7 => if v < 0 then none
    else (restrictionOfCode v.toNat).map fun r =>
      { value := { x with defn := { d with restriction := r } }, answer := plain .accepted }
  | _ => none

/-! ### Calibration edits -/

/-- The block with one field replaced. -/
def setCalField (c : Calibration) (field : Nat) (v : Int) : Calibration :=
  { c with fields := c.fields.setIfInBounds field v }

/-- The write of one calibration field (R97, R192): none for a field or a code that does not exist. -/
def writtenCalibration (c : Calibration) (field : Nat) (v : Int) : Option (Edited Calibration) :=
  match calRange field with
  | some (.range lo hi) =>
    let a := clampArg lo hi v
    some { value := setCalField c field a.value, answer := clampAnswer [a] }
  | some (.codes l) => if v ∈ l then some { value := setCalField c field v, answer := plain .accepted } else none
  | none => none

end Sys2Proof.Machine
end

