-- ==== Sys2Proof/Machine/Records.lean ====
section
/-! DEFINITION. The content of the records that READ returns (R182, R185), each in the field order of its owning
rule (R34, R51, R78, R80, R81, R169, R178, R189). -/

namespace Sys2Proof.Machine

/-! ### Fields (R182) -/

/-- A code or a flag: one byte. -/
def code1 (n : Nat) : List Byte := toBytes 1 n

/-- A flag. -/
def flag1 (b : Bool) : List Byte := code1 (bit b)

/-- A value within 0..65,535: two bytes. -/
def value2 (n : Nat) : List Byte := toBytes 2 n

/-- A value that may be negative, within -32,768..32,767: two bytes. -/
def signed2 (v : Int) : List Byte := toBytes 2 (unsigned 2 v)

/-- A larger value: four bytes. -/
def value4 (n : Nat) : List Byte := toBytes 4 (if n < 4294967296 then n else Config.recordOverflow n)

/-- A larger value that may be negative: four bytes. -/
def signed4 (v : Int) : List Byte := toBytes 4 (unsigned 4 v)

/-- An optional field: a byte that tells whether it is present, then the field. -/
def optional {α : Type} (g : α → List Byte) : Option α → List Byte
  | some a => 1 :: g a
  | none => [0]

/-- A list: its count, then its elements. -/
def listed {α : Type} (g : α → List Byte) (l : List α) : List Byte := value2 l.length ++ l.flatMap g

/-- A name to which the spec gives no code (log 11). -/
def named (family place : Nat) : List Byte := [Config.nameCode family place]

/-- The place of a reset cause in R1's listing. -/
def causePlace : ResetCause → Nat
  | .powerOn => 0
  | .backupLost => 1
  | .keyWake => 2
  | .supplyLow => 3
  | .resetLine => 4
  | .serviceReset => 5

/-- The place of a condition in R190's table. -/
def conditionPlace (c : Condition) : Nat := allConditions.findIdx (· == c)

/-- The place of a fault cause in R127's listing. -/
def faultPlace : FaultCause → Nat
  | .faultStatus => 0
  | .silent => 1
  | .startTimeout => 2
  | .stopTimeout => 3

/-- The place of a token holder in R87's listing. -/
def holderPlace : Option Claim → Nat
  | none => 0
  | some c => match c.who with
    | .cdt => 1
    | .tg => 2
    | .st => 3

/-- The code of an engine state (R182). -/
def runCode : RunState → Nat
  | .stopped => 0
  | .cranking => 1
  | .running => 2
  | .fault => 3

/-! ### The records -/

/-- A temperature: a value of °C + 40, two bytes. -/
def temperature2 (c : Int) : List Byte := signed2 (c + 40)

/-- The latest status of a slot (R127). -/
def statusBytes (x : EngineStatus) : List Byte :=
  code1 (runCode x.state) ++ value2 x.speed ++ temperature2 x.coolant ++ value2 x.fuelRate ++ value2 x.load ++
    flag1 x.noStop

/-- A slot in the status record (R189). -/
def slotBytes (x : Slot) : List Byte :=
  named 5 (match x.role with | .lead => 0 | .second => 1) ++ code1 (slotCode x.state) ++
    optional (fun c => named 6 (faultPlace c)) x.cause ++ optional statusBytes x.status

/-- The STATUS record (R189). -/
def statusRecord (s : State) : List Byte :=
  code1 (modeCode s.mdc.mode) ++ named 1 (causePlace s.mdc.cause) ++
    named 2 (match s.mdc.keyState with | .on => 0 | .off => 1) ++
    code1 (match s.mdc.lockout with | .engaged => 0 | .released => 1) ++
    named 3 (match s.mdc.calStatus with | .valid => 0 | .invalid => 1) ++ flag1 s.mdc.resetPending ++
    allConditions.flatMap (fun c => flag1 (standing s c)) ++
    listed (fun c => named 4 (conditionPlace c)) s.lnc.latch ++
    flag1 s.lnc.commandCrc ++ flag1 s.lnc.commandDropped ++ flag1 s.lnc.noticeOverflow ++
    flag1 s.svu.metersLost ++ flag1 (clockInvalid s) ++
    named 7 (holderPlace s.rts.token.holder) ++ flag1 s.rts.token.commit.isSome ++ flag1 s.rts.inFlight.isSome ++
    slotBytes s.eeu.slot1 ++ slotBytes s.eeu.slot2 ++
    code1 (ladderCode s.eeu.ladder) ++ flag1 s.eeu.idleHold ++ code1 (powerRank s.eeu.effective) ++
    value2 s.eeu.limit

/-- The POSE record (R51). -/
def poseRecord (p : Pose) : List Byte :=
  let coord := fun (g : Coords → Int) => optional signed2 (p.coords.map g)
  value2 p.seq ++ optional value4 p.time ++ code1 (partCode p.plane) ++ code1 (partCode p.slew) ++
    optional signed2 p.boom ++ optional signed2 p.stick ++ optional signed2 p.bucket ++ optional signed2 p.psi ++
    optional signed2 p.roll ++ optional signed2 p.sigma ++
    coord (·.xp) ++ coord (·.zp) ++ coord (·.x1) ++ coord (·.z1) ++ coord (·.x3) ++ coord (·.z3) ++
    coord (·.h) ++ coord (·.reach) ++ coord (·.depth) ++ flag1 p.overrange ++
    optional signed4 p.boomRate ++ optional signed4 p.stickRate ++ optional signed4 p.bucketRate ++
    optional signed4 p.slewRate ++ optional signed2 p.deviation ++
    optional (fun g => optional signed2 g.limit ++ value2 g.margin ++ value2 30) p.gradeFloor

/-- A reading in the CHANNELS record: one value or two. -/
def readingBytes (ch : Channel) (r : Reading) : List Byte :=
  signed2 r.v1 ++ (if twoValued ch then signed2 r.v2 else [])

/-- A channel in the CHANNELS record (R34). -/
def channelBytes (now : Millis) (ch : Channel) (c : ChannelRec) : List Byte :=
  value2 ch.node ++ code1 (chStateCode c.state) ++ optional (readingBytes ch) c.accepted ++
    optional (readingBytes ch) c.suspect ++ optional value2 c.counter ++
    optional (fun t => value2 (min 65535 (now - t))) c.acceptedAt ++
    value2 c.suspectRun ++ value2 c.flagRun ++ value2 c.recoveryRun

/-- The CHANNELS record (R34). -/
def channelsRecord (s : State) : List Byte :=
  allChannels.flatMap fun ch => channelBytes s.now ch (channelGet s.siu ch)

/-- A fence in the FENCE SET record (R80). Its limit, sector start and sector end are three optional fields, each with a
presence byte of its own, and its applicability sector is one optional field of two values (DESIGN CHOICE, log 11). -/
def fenceBytes (f : Fence) : List Byte :=
  match f.shape with
  | .planar k limit a =>
    code1 (planarCode k) ++ flag1 f.enabled ++ optional signed2 (some limit) ++ optional value2 none ++
      optional value2 none ++ value2 f.margin ++ value2 f.creep ++
      optional (fun r : Sector => value2 r.first ++ value2 r.last) a
  | .sector r =>
    code1 4 ++ flag1 f.enabled ++ optional signed2 none ++ optional value2 (some r.first) ++
      optional value2 (some r.last) ++ value2 f.margin ++ value2 f.creep ++
      optional (fun r : Sector => value2 r.first ++ value2 r.last) none

/-- The FENCE SET record of a live slot: its entries, the active set, the lock (R81). The eight entries stand one after
another without a count, each sent as an optional field is, a lone 0 for EMPTY and 1 before a record; an active set of
NONE is the code 4 (DESIGN CHOICE, log 11). -/
def fenceSetRecord (f : FenceState) (n : Fin 4) : List Byte :=
  f.sets[n].toList.flatMap (optional fenceBytes) ++
    code1 (match f.active with | some a => a.val | none => 4) ++ flag1 f.lock

/-- The ITEM record of an entry (R169, R178); an entry is sent as an optional field is, so an EMPTY one is a lone 0
and any other stands after a 1 (DESIGN CHOICE, log 11). -/
def itemRecord (i : Option Item) : List Byte :=
  optional (fun i : Item =>
    value2 i.defn.label ++ code1 (meterCode i.defn.meter) ++ value4 i.defn.interval ++ value4 i.defn.lead ++
      value4 i.defn.grace ++ value4 i.defn.lastDone ++ value4 i.defn.nextDue ++ code1 (itemStateCode i.state) ++
      flag1 i.acked ++ code1 (restrictionCode i.defn.restriction) ++ flag1 i.extUsed ++ optional value4 i.doneDate) i

/-- A meter or remainder as the METERS record shows it: a free value before loading completes (R162; log 6). -/
def shownMeter (s : State) (part v : Nat) : Nat := if s.svu.loaded then v else Config.unloadedMeter part

/-- The METERS record (R178). -/
def metersRecord (s : State) : List Byte :=
  allMeters.flatMap (fun m => value4 (shownMeter s (meterCode m) (meterGet s.svu.meters m))) ++
    value2 (shownMeter s 10 s.svu.fuelRem) ++ value2 (shownMeter s 11 s.svu.payloadRem) ++
    value2 (shownMeter s 12 s.svu.slewRem) ++ optional value4 s.svu.dayMark ++
    (perFnList s.evu.monitors).flatMap (fun m => value2 m.violations) ++
    (perFnList s.evu.monitors).flatMap (fun m => optional value2 m.lastResponse) ++
    code1 (powerRank s.svu.summary.ceiling) ++ flag1 s.svu.summary.singleEngine ++ flag1 s.svu.summary.slewCreep ++
    flag1 s.svu.metersLost

/-- A pass in the OPEN TRUCK record (R58). Its payload is sent as an optional field is, a lone 0 for UNWEIGHED and 1
before a weighed payload (DESIGN CHOICE, log 11). -/
def passBytes (p : Pass) : List Byte :=
  value2 p.number ++ optional value2 p.payload ++ flag1 p.overload ++ value2 p.carryMs ++ value4 p.fuelAtDump

/-- An open truck (R58). -/
def truckBytes (t : Truck) : List Byte :=
  value2 t.number ++ optional value4 t.target ++ listed passBytes t.passes ++ value4 t.total ++
    value4 t.fuelMark ++ flag1 t.overload

/-- The OPEN TRUCK record (R78). -/
def openTruckRecord (s : State) : List Byte :=
  named 8 (match s.plu.detector with | .ready => 0 | .carry => 1 | .return => 2) ++
    value2 s.plu.samples.length ++ optional truckBytes s.plu.truck

/-- A truck summary (R58). -/
def summaryBytes (x : TruckSummary) : List Byte :=
  value2 x.number ++ value2 x.passCount ++ value4 x.total ++ value4 x.fuelUsed ++ optional value4 x.fuelPerTonne ++
    flag1 x.overload ++ optional value4 x.closedAt

/-- The COMPLETED TRUCKS record (R78). -/
def completedRecord (s : State) : List Byte := listed summaryBytes s.plu.completed

/-- The SETTINGS record (R185). -/
def settingsRecord (x : Settings) : List Byte :=
  code1 (powerRank x.mode) ++ value2 x.autoIdle ++ value2 x.shutdown ++ value4 x.truckTarget

end Sys2Proof.Machine
end

