-- ==== Sys2Proof/Machine/Token.lean ====
section
/-! DEFINITION. The edit token: holder, waiting list, preemption, release, silence (R87 to R93). -/

namespace Sys2Proof.Machine

/-- Staging emptied, and with it the holder's half-write (R93, R184). -/
def emptyStaging (s : State) : State := { s with rts.token.staging := none, lnc.half := none }

/-- A master becomes the holder; its silence timer starts from 0 (R88, R91). -/
def makeHolder (c : Claim) (s : State) : State :=
  { s with rts.token.holder := some c, rts.token.silence := some s.now, rts.token.silenceDue := false }

/-- The token left free, its silence timer stopped (R91). -/
def freeToken (s : State) : State :=
  { s with rts.token.holder := none, rts.token.silence := none, rts.token.silenceDue := false }

/-- TOKEN_LOST for a master (R87, R89, R92). -/
def notifyLost (m : Master) (s : State) : State := notify .tokenLost m.node .advise none s

/-- TOKEN_GRANTED for a master (R91). -/
def notifyGranted (m : Master) (s : State) : State := notify .tokenGranted m.node .info none s

/-- TOKEN_LOST for the holder, when there is one. -/
def notifyHolderLost (s : State) : State :=
  match s.rts.token.holder with
  | some h => notifyLost h.who s
  | none => s

/-- The first waiter becomes the holder, with TOKEN_GRANTED; with nobody waiting the token is free (R91). -/
def passToken (s : State) : State :=
  match s.rts.token.waiting with
  | w :: rest => notifyGranted w.who (makeHolder w { s with rts.token.waiting := rest })
  | [] => freeToken s

/-- Release of the token (R91). -/
def releaseToken (s : State) : State := passToken (emptyStaging s)

/-- A holder that falls silent loses the token (R92). -/
def loseToken (s : State) : State := releaseToken (notifyHolderLost s)

/-- The rank of a master in the waiting list (R87). -/
def masterRank : Master → Nat
  | .st => 0
  | .cdt => 1
  | .tg => 2

/-- A waiter placed by its priority (R90). -/
def insertClaim (c : Claim) : List Claim → List Claim
  | [] => [c]
  | w :: rest => if masterRank c.who < masterRank w.who then c :: w :: rest else w :: insertClaim c rest

/-- The place of a master in the waiting list, counted from 1 (R88). -/
def placeOf (m : Master) (l : List Claim) : Nat := l.findIdx (fun w => w.who == m) + 1

/-- A requester preempts the holder (R89): staging emptied, TOKEN_LOST, the requester holds. -/
def preempt (c : Claim) (s : State) : State := makeHolder c (notifyHolderLost (emptyStaging s))

/-- The holder's policy is ON_REQUEST. -/
def holderOnRequest (s : State) : Bool :=
  match s.rts.token.holder with
  | some h => h.policy == .onRequest
  | none => false

/-- The first waiter preempts a holder whose policy is ON_REQUEST (R88, R89). -/
def preemptByWaiter (s : State) : State :=
  match s.rts.token.waiting with
  | w :: rest => if holderOnRequest s then notifyGranted w.who (preempt w { s with rts.token.waiting := rest }) else s
  | [] => s

/-- A commit is in progress (R87). -/
def committing (s : State) : Bool := s.rts.token.commit.isSome

/-- The policy with a code (R182). -/
def policyOfCode : Nat → Option Policy
  | 1 => some .whenDone
  | 2 => some .onRequest
  | _ => none

/-- A requester joins the waiting list (R89, R90). -/
def joinWaiting (c : Claim) (s : State) : State :=
  { s with rts.token.waiting := insertClaim c s.rts.token.waiting }

/-- A waiter's entry takes a policy and keeps its place (R88). -/
def updateWaiter (c : Claim) (s : State) : State :=
  { s with rts.token.waiting := s.rts.token.waiting.map fun w => if w.who = c.who then c else w }

/-- Whether a master waits. -/
def waits (m : Master) (s : State) : Bool := s.rts.token.waiting.any (·.who == m)

/-- A holder that asks again: the policy asked, the silence timer restarted; changed to ON_REQUEST before a
waiting list, it is preempted, at once or at the end of the write in progress (R88, R89). -/
def renewHolder (c : Claim) (s : State) : State :=
  let s' := { s with rts.token.holder := some c, rts.token.silence := some s.now }
  if c.policy = .onRequest ∧ holderOnRequest s = false ∧ committing s = false then preemptByWaiter s' else s'

/-- What TOKEN_REQUEST does outside START and CLOSING (R88, R89, R90): the state and the detail of its ACCEPTED. -/
def requestToken (c : Claim) (s : State) : State × Nat :=
  match s.rts.token.holder with
  | none => (makeHolder c s, 0)
  | some h =>
    if h.who = c.who then (renewHolder c s, 0)
    else if waits c.who s then (updateWaiter c s, placeOf c.who s.rts.token.waiting)
    else if h.policy = .onRequest ∧ committing s = false then (preempt c s, 0)
    else (joinWaiting c s, placeOf c.who (joinWaiting c s).rts.token.waiting)

/-- The token silence timer has reached 30 s and the loss is not yet due (R92). -/
def tokenSilent (s : State) : Bool :=
  s.rts.token.holder.isSome && !s.rts.token.silenceDue && reached s.rts.token.silence 30000 s.now

/-- The token at 30 s of silence: lost, or the loss due at the end of the write (R92). -/
def takeSilence (s : State) : State :=
  if committing s then { s with rts.token.silenceDue := true } else loseToken s

/-- A preemption or a silence loss that waited for the end of a write (R89, R92, R101, R102). -/
def delayedLoss (s : State) : State :=
  if holderOnRequest s && !s.rts.token.waiting.isEmpty then preemptByWaiter s
  else if s.rts.token.holder.isSome && s.rts.token.silenceDue then loseToken s
  else s

/-- The holder's policy is WHEN_DONE and the holder is this master. -/
def holdsWhenDone (m : Master) (s : State) : Bool := holds m s && !holderOnRequest s

/-- The token record at entry to CLOSING: TOKEN_LOST for a holder, all cleared but the commit in progress (R87,
R10). -/
def closeToken (s : State) : State :=
  let s := emptyStaging (notifyHolderLost s)
  { s with rts.token := { Token.reset with commit := s.rts.token.commit } }

end Sys2Proof.Machine
end

