-- ==== Sys2Proof/Machine/Store.lean ====
section
/-! DEFINITION. The Retained Store: banks (R192), the beginning and the end of a write (R194, R195), what a
commit stores (R100) and what its completion does to the live records (R101, R9, R86, R176). -/

namespace Sys2Proof.Machine

/-! ### Banks -/

/-- One bank of a region. -/
def bankGet {α : Type} (b : Banks α) : BankId → Bank α
  | .bank0 => b.bank0
  | .bank1 => b.bank1

/-- The banks with one replaced. -/
def bankSet {α : Type} (b : Banks α) (i : BankId) (x : Bank α) : Banks α :=
  match i with
  | .bank0 => { b with bank0 := x }
  | .bank1 => { b with bank1 := x }

/-- The other bank. -/
def otherBank : BankId → BankId
  | .bank0 => .bank1
  | .bank1 => .bank0

/-- The newer bank by the two write counts (R192). -/
def newerByCount (c0 c1 : Nat) : BankId :=
  if c0 = c1 then .bank0
  else if c1 = (c0 + 1) % 65536 then .bank1
  else if c0 = (c1 + 1) % 65536 then .bank0
  else if c0 < c1 then .bank1
  else .bank0

/-- What the check of a bank finds (R192). -/
inductive BankCheck where
  | neverWritten | good | bad
deriving DecidableEq, Repr, Inhabited

/-- The bytes of a region's content, for its CRC: the canonical forms of R182 where it gives one, the record layout of
R182 beside them (DESIGN CHOICE for the order of the fields; log 25). -/
def contentBytes : RegionContent → List Byte
  | .calibration c => canonicalCalibration c
  | .settings c => settingsRecord c
  | .fences f => f.sets.toList.flatMap (fun entries => entries.toList.flatMap canonicalFence) ++
      optional (fun n : Fin 4 => code1 n) f.active ++ flag1 f.lock
  | .items t => t.toList.flatMap fun i => canonicalItem (i.map (·.defn)) ++
      optional (fun i : Item => code1 (itemStateCode i.state) ++ flag1 i.acked ++ flag1 i.extUsed ++
        optional value4 i.doneDate) i
  | .meters m => allMeters.flatMap (fun k => value4 (meterGet m.meters k)) ++ value2 m.fuelRem ++ value2 m.payloadRem ++
      value2 m.slewRem ++ optional value4 m.dayMark ++ (perFnList m.violations).flatMap value2
  | .trucks l => listed summaryBytes l

/-- The CRC-16 over a write count and a content (R192, R99). -/
def bankCrc (count : Nat) (x : RegionContent) : BitVec 16 := crc16 (value2 count ++ contentBytes x)

/-- The check of a bank whose content stands in a region: its stored CRC against the one computed (R192). -/
def checkBank {α : Type} (region : α → RegionContent) (b : Bank α) : BankCheck :=
  if !b.written then .neverWritten
  else if b.crc = bankCrc b.count (region b.content) then .good
  else .bad

/-- The newer good bank of a region; none when the region is bad (R192). -/
def newerGood {α : Type} (region : α → RegionContent) (b : Banks α) : Option BankId :=
  match checkBank region b.bank0, checkBank region b.bank1 with
  | .good, .good => some (newerByCount b.bank0.count b.bank1.count)
  | .good, .bad | .good, .neverWritten => some .bank0
  | .bad, .good | .neverWritten, .good => some .bank1
  | .bad, .bad | .bad, .neverWritten | .neverWritten, .bad | .neverWritten, .neverWritten => none

/-- The bank that the next write of a region goes to (R192). -/
def targetBank {α : Type} (b : Banks α) : BankId :=
  match b.source with
  | some i => otherBank i
  | none => .bank0

/-- The write count that the next write of a region carries (R192). -/
def targetCount {α : Type} (b : Banks α) : Nat :=
  match b.source with
  | some i => ((bankGet b i).count + 1) % 65536
  | none => 0

/-- A completed write: the bank holds count, content and their CRC, and is the last written (R192, R194). -/
def bankWritten {α : Type} (region : α → RegionContent) (i : BankId) (count : Nat) (x : α) (b : Banks α) : Banks α :=
  { bankSet b i { written := true, count, content := x, crc := bankCrc count (region x) } with source := some i }

/-- A CRC that does not match the right one: a free value (log 12), or the next one where that would match. -/
def wrongCrc (right free : BitVec 16) : BitVec 16 := if free = right then right + 1 else free

/-- A bank whose write was cut short or failed: its count and its CRC are free values, but the CRC does not match
(R194, R195; log 12). -/
def bankSpoilt {α : Type} (region : α → RegionContent) (i : BankId) (draw : Nat) (torn : α → α) (b : Banks α) :
    Banks α :=
  let count := (Config.tornCount draw).toNat
  let content := torn (bankGet b i).content
  bankSet b i
    { written := true, count, content, crc := wrongCrc (bankCrc count (region content)) (Config.tornCrc draw) }

/-- The region of some content. -/
def regionOf : RegionContent → Region
  | .calibration _ => .calibration
  | .settings _ => .settings
  | .fences _ => .fences
  | .items _ => .items
  | .meters _ => .meters
  | .trucks _ => .trucks

/-- The store after a write has completed (R194). -/
def storeWritten (w : RegionWrite) (x : Store) : Store :=
  match w.content with
  | .calibration c => { x with calibration := bankWritten .calibration w.bank w.count c x.calibration }
  | .settings c => { x with settings := bankWritten .settings w.bank w.count c x.settings }
  | .fences c => { x with fences := bankWritten .fences w.bank w.count c x.fences }
  | .items c => { x with items := bankWritten .items w.bank w.count c x.items }
  | .meters c => { x with meters := bankWritten .meters w.bank w.count c x.meters }
  | .trucks c => { x with trucks := bankWritten .trucks w.bank w.count c x.trucks }

/-- The bit rates left in a calibration bank that was not written whole are free values (R180; log 12). -/
def tornCalibration (draw : Nat) (c : Calibration) : Calibration :=
  setCalField (setCalField (setCalField c 47 (Config.tornRate draw 0)) 48 (Config.tornRate draw 1)) 49
    (Config.tornRate draw 2)

/-- The store after a write has failed or was cut short (R194, R195). -/
def storeSpoilt (w : RegionWrite) (draw : Nat) (x : Store) : Store :=
  match w.content with
  | .calibration _ =>
    { x with calibration := bankSpoilt .calibration w.bank draw (tornCalibration draw) x.calibration }
  | .settings _ => { x with settings := bankSpoilt .settings w.bank draw id x.settings }
  | .fences _ => { x with fences := bankSpoilt .fences w.bank draw id x.fences }
  | .items _ => { x with items := bankSpoilt .items w.bank draw id x.items }
  | .meters _ => { x with meters := bankSpoilt .meters w.bank draw id x.meters }
  | .trucks _ => { x with trucks := bankSpoilt .trucks w.bank draw id x.trucks }

/-- A write in flight cut short by a reset or a loss of supply (R194). -/
def tearWrite (s : State) : State :=
  match s.rts.inFlight with
  | some w => { s with store := storeSpoilt w s.draws s.store, draws := s.draws + 1, rts.inFlight := none }
  | none => s

/-! ### Commits -/

/-- The region of a staged subject (R93). -/
def stagedRegion : Staged → Region
  | .fenceSet _ _ => .fences
  | .item _ _ _ _ => .items
  | .calibration _ => .calibration

/-- The subject number of a committed record in its notice (R101). -/
def stagedSubject : Staged → Nat
  | .fenceSet n _ => n
  | .item k _ _ _ => 100 + k
  | .calibration _ => 200

/-- The fence state with a committed set in its slot (R100, R101). -/
def withSet (f : FenceState) (n : Fin 4) (entries : FenceSet) : FenceState :=
  { f with sets := f.sets.set n entries }

/-- The definition that a committed item takes over a live one: last_done and next_due are the live item's
unless their written-marks are set (R100, R176). -/
def mergedDef (d live : ItemDef) (lastW nextW : Bool) : ItemDef :=
  { d with lastDone := if lastW then d.lastDone else live.lastDone
           nextDue := if nextW then d.nextDue else live.nextDue }

/-- The definition that a committed item takes over an EMPTY entry: an unwritten last_done is the meter's
present value, an unwritten next_due follows from last_done (R176). -/
def firstDef (d : ItemDef) (m : Nat) (lastW nextW : Bool) : ItemDef :=
  let last := if lastW then d.lastDone else m
  { d with lastDone := last, nextDue := if nextW then d.nextDue else last + d.interval }

/-- A new item in a state. -/
def newItem (d : ItemDef) (st : ItemState) : Item :=
  { defn := d, state := st, acked := false, extUsed := false, doneDate := none }

/-- The entry that a committed item makes, as stored when the write begins (R100): over a live item with that item's state
and acknowledged flag as they stand, unevaluated, and over an EMPTY entry as a new item (DESIGN CHOICE, log 18). -/
def storedItem (s : State) (k : Fin 32) (content : Option ItemDef) (lastW nextW : Bool) : Option Item :=
  content.map fun d => match itemAt s k with
    | some i => { i with defn := mergedDef d i.defn lastW nextW }
    | none =>
      let m := meterGet s.svu.meters d.meter
      let d := firstDef d m lastW nextW
      newItem d (itemStateAt d m)

/-- The content of a region formed from the live records, the subject of a commit in progress in place of its
origin (R100, R191, R194). -/
def formContent (r : Region) (s : State) : RegionContent :=
  let subject : Option Staged := s.rts.token.commit.map fun c => c.subject
  match r with
  | .calibration => match subject with
    | some (.calibration c) => .calibration c
    | _ => .calibration s.rts.cal
  | .settings => .settings s.eeu.settings
  | .fences => match subject with
    | some (.fenceSet n entries) => .fences (withSet s.evu.fences n entries)
    | _ => .fences s.evu.fences
  | .items => match subject with
    | some (.item k content lw nw) => .items (s.svu.items.set k (storedItem s k content lw nw))
    | _ => .items s.svu.items
  | .meters => .meters
      { meters := s.svu.meters, fuelRem := s.svu.fuelRem, payloadRem := s.svu.payloadRem,
        slewRem := s.svu.slewRem, dayMark := s.svu.dayMark,
        violations := perFnOf fun f => (perFnGet s.evu.monitors f).violations }
  | .trucks => .trucks s.plu.completed

/-- A region's target bank and write count (R192). -/
def regionTarget (r : Region) (x : Store) : BankId × Nat :=
  match r with
  | .calibration => (targetBank x.calibration, targetCount x.calibration)
  | .settings => (targetBank x.settings, targetCount x.settings)
  | .fences => (targetBank x.fences, targetCount x.fences)
  | .items => (targetBank x.items, targetCount x.items)
  | .meters => (targetBank x.meters, targetCount x.meters)
  | .trucks => (targetBank x.trucks, targetCount x.trucks)

/-- The write that begins for a region (R194). -/
def regionWrite (r : Region) (s : State) : RegionWrite :=
  { content := formContent r s, bank := (regionTarget r s.store).1, count := (regionTarget r s.store).2,
    since := s.now,
    carriesCommit := match s.rts.token.commit with
      | some c => stagedRegion c.subject == r
      | none => false }

/-- With no write in flight and the set not empty, the first region's write begins; none begins before loading
completes (R193, R194). A METERS write that begins in CLOSING is the entry save's (R165). -/
def beginWrite (s : State) : State :=
  match s.rts.inFlight, s.rts.pendingSave with
  | none, r :: rest =>
    if s.svu.loaded then
      { s with rts.inFlight := some (regionWrite r s), rts.pendingSave := rest,
               svu.entrySaveBegun := s.svu.entrySaveBegun || (r == .meters && s.mdc.mode == .closing) }
    else s
  | _, _ => s

/-! ### A commit taken into the live records (R101) -/

/-- FENCE_DATA_LOST cleared: the data-lost terms lift, FENCES is asked for unless the clearing event has written
it (R86). The computed caps so raised reach the granted ones by R116, at a PVC_LEVERS arrival at neutral as at a pose,
where R86 speaks of the next pose (DESIGN CHOICE, log 38). -/
def clearDataLost (written : Bool) (s : State) : State :=
  if s.evu.dataLost then
    let s := reformCaps { s with evu.dataLost := false }
    if written then s else askSave .fences s
  else s

/-- A committed fence set in its slot; when the slot is active the terms are lowered for validity and the caps
formed anew (R101, R114). -/
def commitFences (n : Fin 4) (entries : FenceSet) (s : State) : State :=
  let s := { s with evu.fences := withSet s.evu.fences n entries }
  if s.evu.fences.active = some n then formCaps (lowerFences s) else s

/-- A committed item in its entry (R176). -/
def commitItem (k : Fin 32) (content : Option ItemDef) (lastW nextW : Bool) (s : State) : State :=
  match content with
  | none => formSummary (setItem k none s)
  | some d => match itemAt s k with
    | some i =>
      formSummary (evaluateItem k (setItem k (some { i with defn := mergedDef d i.defn lastW nextW }) s))
    | none =>
      let m := meterGet s.svu.meters d.meter
      let d := firstDef d m lastW nextW
      let st := itemStateAt d m
      formSummary (notifyItem k st (setItem k (some (newItem d st)) s))

/-- A committed calibration block live: status VALID, engine count applied, terms and caps formed anew, the
conditions then standing latched by the new mask when it changed (R101, R9, R127, R114, R190). The mode change
of HALT follows in the event of the write's end. -/
def commitCalibration (c : Calibration) (s : State) : State :=
  let mask := calFaultMask s.rts.cal
  let s := applyEngineCount { s with rts.cal := c, mdc.calStatus := .valid }
  let s := reformCaps s
  if calFaultMask c = mask then s else latchByMask s

/-- The committed subject replaces its origin (R101 step 1). -/
def takeCommitted (x : Staged) (s : State) : State :=
  match x with
  | .fenceSet n entries => commitFences n entries s
  | .item k content lw nw => commitItem k content lw nw s
  | .calibration c => commitCalibration c s

/-- A commit of a fence set by the ST clears FENCE_DATA_LOST (R101 step 2). -/
def commitClears (c : Commit) (s : State) : State :=
  match c.subject with
  | .fenceSet _ _ => if c.who = .st then clearDataLost true s else s
  | .item _ _ _ _ | .calibration _ => s

/-- The commit stops being in progress. -/
def endCommit (s : State) : State := { s with rts.token.commit := none }

/-- The code of COMMIT (R182). -/
def commitCode : Nat := 13

/-- Steps 3 to 5 of R101: notice, reply, token. A token that the committing master lost at entry to CLOSING and took
again WHEN_DONE before the write ended is released too (DESIGN CHOICE, log 20). -/
def answerCommit (c : Commit) (s : State) : State :=
  let s := notify .recordCommitted (stagedSubject c.subject) .info none s
  let s := endCommit (placeReply commitCode (plain .accepted) c.who [] s)
  if holdsWhenDone c.who s then releaseToken s else delayedLoss s

/-- The commit that a failed write carried (R102). -/
def failCommit (c : Commit) (s : State) : State :=
  delayedLoss (endCommit (placeReply commitCode (plain .storeFailed) c.who [] s))

/-- A failed write: the bank spoilt, STORE_ERROR raised (R195). -/
def failWrite (w : RegionWrite) (s : State) : State :=
  let r := regionOf w.content
  notify .storeError (regionCode r) .fault none
    { s with store := storeSpoilt w s.draws s.store, draws := s.draws + 1,
             rts.failed := if r ∈ s.rts.failed then s.rts.failed else s.rts.failed ++ [r] }

/-- A completed write: the bank good, its region's STORE_ERROR cleared (R194, R195). -/
def completeWrite (w : RegionWrite) (s : State) : State :=
  { s with store := storeWritten w s.store, rts.failed := s.rts.failed.filter (· != regionOf w.content) }

/-! ### Bit rates (R180) -/

/-- The bank that names the rates: the newer by the write counts alone; a bank never written holds no count
(log 12). -/
def rateBank (b : Banks Calibration) : Option (Bank Calibration) :=
  match b.bank0.written, b.bank1.written with
  | false, false => none
  | false, true => some b.bank1
  | true, false => some b.bank0
  | true, true => some (bankGet b (newerByCount b.bank0.count b.bank1.count))

/-- The rate at which a link is opened, by its field code: 250 unless 500 is stored. -/
def storedRate (x : Store) (field : Nat) : Nat :=
  match rateBank x.calibration with
  | some b => if calField b.content field = 500 then 500 else 250
  | none => 250

end Sys2Proof.Machine
end

