-- ==== Sys2Proof/Machine/Event.lean ====
section
/-! DEFINITION. The end of every event: what the event's changes bring about in the same event whichever command
made them (R94 to R101 aside): the engine set settled, changed requests handed over (R131), one new grant if the
grant record changed (R118), conditions that arose latched (R190), a waiting save begun (R194), the free
controllers supplied (R181). -/

namespace Sys2Proof.Machine

/-- The group order that a slot's state implies (R132, R134). -/
def groupOrder (st : SlotState) : Bool := st == .joining || st == .online

/-- The grant record as things stand, under the present sequence (R117). -/
def grantContent (s : State) : Grant :=
  { seq := s.evu.grant.seq, caps := perFnOf fun f => (capRow s f).granted, limit := s.eeu.limit,
    group1 := groupOrder s.eeu.slot1.state, group2 := groupOrder s.eeu.slot2.state, power := s.eeu.effective,
    mode := s.mdc.mode, plane := s.gmu.pose.plane, slew := s.gmu.pose.slew }

/-- The two frames of a grant (R118). -/
def grantFrames (g : Grant) : List TxFrame := [.grantCaps g.seq g.caps, .grantPower g]

/-- A new grant, when a field of the record changed (R118, R119). -/
def issueGrant (s : State) : State :=
  if grantContent s = s.evu.grant then s
  else
    let g := { grantContent s with seq := nextGrantSeq s.evu.grant.seq }
    { s with evu.grant := g, evu.refresh := some s.now,
             evu.outstanding := pushGrant s.evu.outstanding (g.seq, s.now), lnc.txGrant := grantFrames g }

/-- The end of an event that began in state `s0`. -/
def endEvent (s0 s : State) : State :=
  linkSettle (beginWrite (latchArisen s0 (issueGrant (settleRequests (eeuSettle s)))))

end Sys2Proof.Machine
end

