-- ==== Sys2Proof/Machine/Modes.lean ====
section
/-! DEFINITION. The Mode Controller: changes of mode (R2, R7, R8, R10, R11), resets (R13, R14), SLEEP (R12), the
end of loading (R5, R193), the end of a write as the MDC sees it (R11, R14), PVC silence (R187). -/

namespace Sys2Proof.Machine

/-! ### Changes of mode -/

/-- The EVU at a change of mode (R114, R115, R122). PARKED to WORKING and back is no entry from another mode, so the
fence terms are kept (DEDUCED, log 35). -/
def capsMode (old : PartMode) (s : State) : State :=
  match s.mdc.mode with
  | .parked | .working => if old = .parked ∨ old = .working then formCaps s else formCaps (enterFences s)
  | .halt | .closing => formCaps (disarmAll s)
  | .service | .start | .sleep => formCaps s

/-- The PLU at entry to CLOSING (R64). -/
def closePayload (s : State) : State := settleSummary s (closeOpenTruck (detectorReady s))

/-- The SVU at entry to CLOSING: METERS asked for, its timers stopped (R10, R165, R172). -/
def closeService (s : State) : State :=
  askSave .meters { s with svu.saveTimer := none, svu.reminderTimer := none, svu.entrySaveBegun := false }

/-- The blocks' entry actions of CLOSING after the EVU's, in the order of R10. -/
def closeBlocks (s : State) : State := closeToken (closeService (closePayload (closeEngines s)))

/-- The other blocks at a change of mode, after the EVU (R7, R10, R149). -/
def blocksMode (old : PartMode) (s : State) : State :=
  match s.mdc.mode with
  | .closing => closeBlocks s
  | .service => serviceLadder s
  | .parked | .working => if old = .halt then compareShutdown s else s
  | .start | .halt | .sleep => s

/-- The part mode set, with its notice; the ST silence timer runs in SERVICE only (R1, R2, R7, R8). -/
def setMode (m : PartMode) (s : State) : State :=
  notify .modeChange 0 (if m = .halt then .fault else .info) (some (modeCode m))
    { s with mdc.mode := m, mdc.stSilence := if m = .service then some s.now else none }

/-- A change of part mode (R2). MODE_CHANGE stands before the notices that the blocks raise on the change (DESIGN CHOICE,
log 41). -/
def enterMode (m : PartMode) (s : State) : State := blocksMode s.mdc.mode (capsMode s.mdc.mode (setMode m s))

/-- The mode of a part that is neither in SERVICE nor closing, by the lockout report (R8). -/
def modeByLockout (s : State) : PartMode := if s.mdc.lockout = .released then .working else .parked

/-- The mode that the calibration status allows (R5, R11). -/
def modeByCalibration (s : State) : PartMode := if s.mdc.calStatus = .valid then .parked else .halt

/-- PVC_SILENT arises (R187). -/
def raisePvcSilent (s : State) : State :=
  notify .pvcSilent 2 .warn none { s with lnc.pvcSilent := true }

/-- The save timer and the reminder timer start from 0 (R165, R172). -/
def startServiceTimers (s : State) : State :=
  { s with svu.saveTimer := some s.now, svu.reminderTimer := some s.now }

/-- The key-on return from CLOSING (R11, R165, R172, R187): a later CLOSING has an entry save of its own. A SLEEP that
is due but still waits for replies is due no longer (DESIGN CHOICE, log 21). -/
def returnFromClosing (s : State) : State :=
  let s := startServiceTimers
    (enterMode (modeByCalibration s) { s with mdc.sleepWait := none, svu.entrySaveBegun := false })
  if !s.lnc.pvcSilent && reached s.lnc.pvcTimer 500 s.now then raisePvcSilent s else s

/-! ### Resets and SLEEP -/

/-- The volatile state lost, no timer running: SLEEP (R12), or the part held without supply or in reset (R13).
The reset cause and the key state stay with the MDC. A frame in a controller is lost too (DESIGN CHOICE, log 40). -/
def loseVolatile (m : PartMode) (s : State) : State :=
  let l := s.lnc
  { s with
    mdc := .reset m s.mdc.cause s.mdc.keyState
    siu := .reset, gmu := .reset none, plu := .reset, evu := .reset none, eeu := .reset none, svu := .reset,
    rts := .reset, lnc := .reset none l.rateA l.rateB l.rateS }

/-- Entry to SLEEP (R12). -/
def enterSleep (s : State) : State := loseVolatile .sleep s

/-- The part held: a write in flight is cut short and the volatile state is lost. The mode field then means
nothing and stands at START (DESIGN CHOICE, log 4). -/
def holdPart (s : State) : State :=
  let s := loseVolatile .start (tearWrite s)
  { s with power.keyTimer := none }

/-- A reset whose event has this cause (R13, R14): every volatile record at its reset value, the links opened at
their stored rates with empty controllers (DESIGN CHOICE, log 40), grant 0 and the engine requests handed over,
MODE_CHANGE START queued. -/
def resetPart (cause : ResetCause) (s : State) : State :=
  let s := tearWrite s
  let t := some s.now
  let rates := Lnc.reset t (storedRate s.store 47) (storedRate s.store 48) (storedRate s.store 49)
  let first : EngineRequest := { ask := .none, speed := 0 }
  linkSettle (notify .modeChange 0 .info (some (modeCode .start))
    { s with
      power.keyTimer := none
      mdc := .reset .start (if s.clock.time.isNone then .backupLost else cause) s.power.keyLevel
      siu := .reset, gmu := .reset t, plu := .reset, evu := .reset t, eeu := .reset t, svu := .reset,
      rts := .reset
      lnc := { rates with txGrant := grantFrames .reset, txReq1 := some (.engineRequest .e1 first),
                          txReq2 := some (.engineRequest .e2 first) } })

/-! ### The end of a write -/

/-- The end of a write as the MDC takes it (R11, R14): in CLOSING, with nothing left to write, SLEEP or the
pending reset becomes due once the replies then waiting have been handed over; outside CLOSING a pending reset
becomes due at once. A reset once due stays due, whatever save is asked for meanwhile (DESIGN CHOICE, log 21). -/
def reportWriteEnd (s : State) : State :=
  let due := some s.lnc.replies.length
  if s.mdc.mode = .closing then
    if s.rts.pendingSave = [] then
      if s.mdc.resetPending then { s with mdc.resetPending := false, mdc.resetWait := due }
      else if s.mdc.resetWait.isSome then s
      else { s with mdc.sleepWait := due }
    else s
  else if s.mdc.resetPending then { s with mdc.resetPending := false, mdc.resetWait := due }
  else s

/-- The commit that a completed write carries, taken and answered (R101); a part in HALT whose calibration became
VALID goes to PARKED (R9). -/
def finishCommit (s : State) : State :=
  match s.rts.token.commit with
  | some c =>
    let s := takeCommitted c.subject s
    let s := if s.mdc.mode = .halt ∧ s.mdc.calStatus = .valid then enterMode .parked s else s
    answerCommit c (commitClears c s)
  | none => s

/-- A write completes (R194). -/
def writeDone (w : RegionWrite) (s : State) : State :=
  let s := completeWrite w { s with rts.inFlight := none }
  reportWriteEnd (if w.carriesCommit then finishCommit s else s)

/-- The commit that a failed write carries, answered (R102). -/
def abortCommit (s : State) : State :=
  match s.rts.token.commit with
  | some c => failCommit c s
  | none => s

/-- A write fails (R195). -/
def writeFailed (w : RegionWrite) (s : State) : State :=
  let s := failWrite w { s with rts.inFlight := none }
  reportWriteEnd (if w.carriesCommit then abortCommit s else s)

/-! ### Loading -/

/-- The content of a region at loading: its newer good bank's; none when the region is bad (R192). -/
def loaded {α : Type} (region : α → RegionContent) (b : Banks α) : Option α :=
  (newerGood region b).map fun i => (bankGet b i).content

/-- The banks after loading: the bank that supplied the region is known (R192). -/
def sourced {α : Type} (region : α → RegionContent) (b : Banks α) : Banks α := { b with source := newerGood region b }

/-- The store after loading. -/
def sourcedStore (x : Store) : Store :=
  { calibration := sourced .calibration x.calibration, settings := sourced .settings x.settings, fences := sourced .fences x.fences,
    items := sourced .items x.items, meters := sourced .meters x.meters, trucks := sourced .trucks x.trucks }

/-- A save asked for when a region is bad (R193). -/
def saveIfBad {α : Type} (region : α → RegionContent) (b : Banks α) (r : Region) (s : State) : State :=
  if (loaded region b).isNone then askSave r s else s

/-- The calibration status and block from the CALIBRATION region (R5, R193). -/
def loadCalibration (s : State) : State :=
  match loaded .calibration s.store.calibration with
  | some c => { s with rts.cal := c, mdc.calStatus := .valid }
  | none => { s with rts.cal := .default, mdc.calStatus := .invalid }

/-- The live fence state from the FENCES region; a bad region raises FENCE_DATA_LOST (R81, R86). -/
def loadFences (s : State) : State :=
  match loaded .fences s.store.fences with
  | some f => setTerms { s with evu.fences := f, evu.dataLost := false }
  | none => setTerms (notify .fenceDataLost 0 .fault none { s with evu.fences := .empty, evu.dataLost := true })

/-- The live settings from the SETTINGS region (R193). -/
def loadSettings (s : State) : State :=
  { s with eeu.settings := (loaded .settings s.store.settings).getD .default }

/-- The completed-truck list from the TRUCKS region, and the next truck number (R58, R79). -/
def loadTrucks (s : State) : State :=
  let l := (loaded .trucks s.store.trucks).getD []
  { s with plu.completed := l, plu.nextNumber := numberAfter l }

/-- The meters, remainders, day mark and violation counts from the METERS region; a bad region gives zeros and
METERS_LOST (R162, R167, R121). -/
def loadMeters (s : State) : State :=
  let c := (loaded .meters s.store.meters).getD .zero
  let s := { s with
    svu.loaded := true, svu.meters := c.meters, svu.fuelRem := c.fuelRem, svu.payloadRem := c.payloadRem,
    svu.slewRem := c.slewRem, svu.dayMark := c.dayMark,
    evu.monitors := perFnOf fun f => { perFnGet s.evu.monitors f with violations := perFnGet c.violations f } }
  if (loaded .meters s.store.meters).isNone then notify .metersLost 0 .warn none { s with svu.metersLost := true } else s

/-- The calendar at loading completion: an absent day mark takes a valid clock's value, else the comparison is
made (R168). -/
def loadCalendar (s : State) : State :=
  match s.svu.dayMark, s.clock.time with
  | none, some t => { s with svu.dayMark := some t }
  | none, none => s
  | some _, _ => compareCalendar s

/-- The item table from the ITEMS region; a bad region is EMPTY, with ITEMS_LOST (R169, R193). -/
def loadItems (s : State) : State :=
  match loaded .items s.store.items with
  | some t => { s with svu.items := t }
  | none => notify .itemsLost 0 .warn none { s with svu.items := Vector.replicate 32 none }

/-- The items evaluated and the summary formed (R169, R177). -/
def evaluateAll (s : State) : State := formSummary (evaluateItems (fun _ => true) s)

/-- The saves of bad regions, in the order of R193's table. -/
def saveBadRegions (s : State) : State :=
  saveIfBad .trucks s.store.trucks .trucks (saveIfBad .meters s.store.meters .meters (saveIfBad .items s.store.items .items
    (saveIfBad .settings s.store.settings .settings s)))

/-- The mode chosen at the end of loading (R5). -/
def chooseMode (s : State) : State :=
  match s.mdc.calStatus, s.mdc.keyState with
  | .invalid, .on => startServiceTimers (enterMode .halt s)
  | .invalid, .off => enterMode .closing (enterMode .halt s)
  | .valid, .on => startServiceTimers (enterMode .parked s)
  | .valid, .off => enterMode .closing s

/-- The end of loading (R5, R193): calibration first, then the owners, then the mode. The meters are set and the
pending sums applied before the items are evaluated and the lead is chosen (R164). -/
def finishLoading (s : State) : State :=
  let s := loadTrucks (loadSettings (loadFences (loadCalibration { s with store := sourcedStore s.store })))
  let s := evaluateAll (loadItems (loadCalendar (applySums (loadMeters s))))
  let s := chooseLead (applyEngineCount (saveBadRegions s))
  chooseMode (remind s)

end Sys2Proof.Machine
end

