-- ==== Sys2Proof/Machine/ExecSupply.lean ====
section
/-! DEFINITION. The meanings of the supply, reset-line, key and mode events (R3, R5, R8, R11 to R14). -/

namespace Sys2Proof.Machine

/-- What every event of an awake part is: nothing while the part does not run, sleeps, or the event's condition
does not hold; otherwise the effect, then what follows from it in the same event (log 1). -/
def event (s : State) (due : Bool) (effect : State → State) : State :=
  if awake s && due then endEvent s (effect s) else s

/-- The outcome of a meaning that always ends in a next state. -/
abbrev Result := Host.Outcome State Fault Refusal

/-- A reset, unless the reset line holds the part. -/
def resetUnlessHeld (cause : ResetCause) (s : State) : State :=
  if s.power.resetLine then s else resetPart cause s

/-- MAIN_SUPPLY_APPLIED (R13): main supply was absent and comes. -/
def execMainSupplyApplied (s : State) : Result :=
  .next (resetUnlessHeld .powerOn (holdPart { s with power.mainGood := true }))

/-- SUPPLY_LOW (R13): the part is held in reset for the dip. -/
def execSupplyLow (s : State) : Result :=
  .next (if s.power.mainGood then holdPart { s with power.mainGood := false } else s)

/-- SUPPLY_RECOVERED (R13). -/
def execSupplyRecovered (s : State) : Result :=
  .next (if s.power.mainGood then s else resetUnlessHeld .supplyLow { s with power.mainGood := true })

/-- RESET_LINE_ASSERTED (R12, R13): the part is held in reset. -/
def execResetLineAsserted (s : State) : Result :=
  .next (if s.power.resetLine then s else holdPart { s with power.resetLine := true })

/-- RESET_LINE_RELEASED (R13): the reset ends, if the main supply is good. -/
def execResetLineReleased (s : State) : Result :=
  .next (if !s.power.resetLine then s
    else if s.power.mainGood then resetPart .resetLine { s with power.resetLine := false }
    else { s with power.resetLine := false })

/-- KEY_LEVEL_CHANGE (R3): the 50 ms of a new level start; a return to the old level cancels them. -/
def execKeyLevelChange (level : KeyLevel) (s : State) : Result :=
  .next (if level = s.power.keyLevel then s
    else { s with power.keyLevel := level
                  power.keyTimer := if running s && level != s.mdc.keyState then some s.now else none })

/-- A level of the KEY input has held for 50 ms and is not yet the key state (R3). -/
def keyDue (level : KeyLevel) (s : State) : Bool :=
  running s && s.power.keyLevel == level && s.mdc.keyState != level && reached s.power.keyTimer 50 s.now

/-- The key state takes a level (R3). -/
def takeKey (level : KeyLevel) (s : State) : State :=
  { s with mdc.keyState := level, power.keyTimer := none }

/-- What a key-off taken does, by the part mode (R3). -/
def keyOff (s : State) : State :=
  match s.mdc.mode with
  | .parked | .working | .service | .halt => enterMode .closing s
  | .start | .closing | .sleep => s

/-- KEY_OFF_TAKEN (R3). -/
def execKeyOffTaken (s : State) : Result :=
  .next (if keyDue .off s then
      if s.mdc.mode = .sleep then takeKey .off s else endEvent s (keyOff (takeKey .off s))
    else s)

/-- What a key-on taken does, by the part mode (R3, R11, R12). A part in CLOSING whose entry to SLEEP is due with no
reply awaited sleeps and wakes; one that still awaits replies returns (DESIGN CHOICE, log 21). -/
def keyOn (s : State) : State :=
  match s.mdc.mode with
  | .sleep => resetPart .keyWake s
  | .closing =>
    if s.mdc.sleepWait = some 0 then resetPart .keyWake (enterSleep s) else endEvent s (returnFromClosing s)
  | .start | .parked | .working | .service | .halt => s

/-- KEY_ON_TAKEN (R3). -/
def execKeyOnTaken (s : State) : Result := .next (if keyDue .on s then keyOn (takeKey .on s) else s)

/-- LOADING_COMPLETE (R193). -/
def execLoadingComplete (s : State) : Result := .next (event s (s.mdc.mode == .start) finishLoading)

/-- The ST silence timer has reached 30 s (R8). -/
def stSilenceDue (s : State) : Bool := s.mdc.mode == .service && reached s.mdc.stSilence 30000 s.now

/-- ST_SILENCE_TIMEOUT (R8). -/
def execStSilenceTimeout (s : State) : Result :=
  .next (event s (stSilenceDue s) fun s => enterMode (modeByLockout s) s)

/-- SLEEP is due and every reply then waiting has been handed over (R11). -/
def sleepDue (s : State) : Bool := awake s && s.mdc.mode == .closing && s.mdc.sleepWait == some 0

/-- ENTER_SLEEP (R12). -/
def execEnterSleep (s : State) : Result := .next (if sleepDue s then enterSleep s else s)

/-- The reset of a PART_RESET is due and every reply then waiting has been handed over (R14). -/
def partResetDue (s : State) : Bool := awake s && s.mdc.resetWait == some 0

/-- PART_RESET_TAKES_EFFECT (R14). -/
def execPartResetTakesEffect (s : State) : Result :=
  .next (if partResetDue s then resetPart .serviceReset s else s)

/-- BACKUP_SUPPLY_FAILED (R13, R196): while the main supply is absent the calendar clock stops being valid. -/
def execBackupSupplyFailed (s : State) : Result :=
  .next (if s.power.mainGood then s else { s with clock.time := none })

end Sys2Proof.Machine
end

