-- ==== Sys2Proof/Machine/ExecEngines.lean ====
section
/-! DEFINITION. The meanings of the engine set's and the economy's timer marks (R130, R131, R135 to R139, R141,
R142, R147 to R150, R160, R161). -/

namespace Sys2Proof.Machine

/-- The silence timer of a slot has reached 1,000 ms (R130). -/
def silenceDue (s : State) (e : Engine) : Bool :=
  (slotGet s e).state != .unused && reached (slotGet s e).silence 1000 s.now

/-- A silent engine (R130): FAULTED with cause SILENT, but for a slot already FAULTED and for a STOPPED one in
CLOSING; the timer stops. -/
def silentEngine (e : Engine) (s : State) : State :=
  let x := slotGet s e
  let s := if x.state = .faulted ∨ (x.state = .stopped ∧ s.mdc.mode = .closing) then s else faultSlot e .silent s
  slotSet e { slotGet s e with silence := none } s

/-- ENGINE_SILENCE (R130). -/
def execEngineSilence (e : Engine) (s : State) : Result := .next (event s (silenceDue s e) (silentEngine e))

/-- ENGINE_REQUEST_REFRESH (R131). -/
def execEngineRequestRefresh (e : Engine) (s : State) : Result :=
  .next (event s (reached (slotGet s e).requestTimer 200 s.now) (handRequest e))

/-- A slot in a state whose slot timer has reached its limit (R127). -/
def slotDue (s : State) (e : Engine) (st : SlotState) (limit : Nat) : Bool :=
  (slotGet s e).state == st && reached (slotGet s e).timer limit s.now

/-- START_TIMEOUT (R135). -/
def execStartTimeout (e : Engine) (s : State) : Result :=
  .next (event s (slotDue s e .starting 20000) fun s => startFailed e (faultSlot e .startTimeout s))

/-- JOIN_REFUSED (R136), its notice after ENGINE_SLOT (DESIGN CHOICE, log 41). -/
def execJoinRefused (e : Engine) (s : State) : Result :=
  .next (event s (slotDue s e .joining 750) fun s =>
    notify .joinRefused (engineNumber e) .warn none (startRetry e (enterSlot e .ready s)))

/-- LEAVE_REFUSED (R137), its notice after ENGINE_SLOT (DESIGN CHOICE, log 41). -/
def execLeaveRefused (e : Engine) (s : State) : Result :=
  .next (event s (slotDue s e .leaving 750) fun s =>
    notify .leaveRefused (engineNumber e) .warn none (startRetry e (enterSlot e .online s)))

/-- COOLDOWN_END (R138). -/
def execCooldownEnd (e : Engine) (s : State) : Result :=
  .next (event s (slotDue s e .cooldown 180000) (enterSlot e .stopping))

/-- STOP_TIMEOUT (R138). -/
def execStopTimeout (e : Engine) (s : State) : Result :=
  .next (event s (slotDue s e .stopping 30000) (faultSlot e .stopTimeout))

/-- RETRY_WAIT_END (R139): the slot's next transition follows at the end of the event. -/
def execRetryWaitEnd (e : Engine) (s : State) : Result :=
  .next (event s (reached (slotGet s e).retry 30000 s.now) fun s =>
    slotSet e { slotGet s e with retry := none } s)

/-- A running hold timer has reached its limit (R141, R142). -/
def holdDue (h : Hold) (limit now : Nat) : Bool :=
  match h with
  | .running t => decide (t + limit ≤ now)
  | .stopped | .reached _ => false

/-- A hold timer taken to have reached its limit. -/
def reachHold : Hold → Hold
  | .running t => .reached t
  | .stopped => .stopped
  | .reached t => .reached t

/-- JOIN_HOLD_REACHED (R141). -/
def execJoinHoldReached (s : State) : Result :=
  .next (event s (holdDue s.eeu.joinHold 10000 s.now) fun s =>
    { s with eeu.joinHold := reachHold s.eeu.joinHold })

/-- LEAVE_HOLD_REACHED (R142). -/
def execLeaveHoldReached (s : State) : Result :=
  .next (event s (holdDue s.eeu.leaveHold 60000 s.now) fun s =>
    { s with eeu.leaveHold := reachHold s.eeu.leaveHold })

/-- AUTO_IDLE_TIMEOUT (R147). -/
def execAutoIdleTimeout (s : State) : Result := .next (event s (autoIdleDue s) (setLadder .autoIdle))

/-- The lockout timer has reached 60 s (R148). -/
def lockoutDue (s : State) : Bool := s.eeu.ladder == .autoIdle && reached s.eeu.lockoutTimer 60000 s.now

/-- LOCKOUT_TIMEOUT (R148). -/
def execLockoutTimeout (s : State) : Result := .next (event s (lockoutDue s) (setLadder .lowIdle))

/-- SHUTDOWN_DELAY_END (R149). -/
def execShutdownDelayEnd (s : State) : Result :=
  .next (event s (shutdownDelayDue s) (setLadder .shutdownWarning))

/-- The countdown has passed the next 10 s before its last (R150). -/
def countdownStepDue (s : State) : Bool :=
  match s.eeu.countdown with
  | some c => decide (20 ≤ c.shown) && decide (c.since + (100 - c.shown) * 1000 ≤ s.now)
  | none => false

/-- A step of the countdown (R150). -/
def countdownStep (s : State) : State :=
  match s.eeu.countdown with
  | some c => warnShutdown .warn (c.shown - 10) { s with eeu.countdown := some { c with shown := c.shown - 10 } }
  | none => s

/-- COUNTDOWN_STEP (R150). -/
def execCountdownStep (s : State) : Result := .next (event s (countdownStepDue s) countdownStep)

/-- The countdown has reached 0 (R150). -/
def countdownEndDue (s : State) : Bool :=
  match s.eeu.countdown with
  | some c => c.shown != 0 && decide (c.since + 90000 ≤ s.now)
  | none => false

/-- The end of the countdown (R150): SHUT_DOWN unless a no-stop flag stands, when it is held at 0. -/
def countdownEnd (s : State) : State :=
  let s := warnShutdown .warn 0 { s with eeu.countdown := s.eeu.countdown.map fun c => { c with shown := 0 } }
  if noStopStands s then warnShutdown .advise 0 s else setLadder .shutDown s

/-- COUNTDOWN_END (R150). -/
def execCountdownEnd (s : State) : Result := .next (event s (countdownEndDue s) countdownEnd)

/-- FUEL_TIMER (R160). -/
def execFuelTimer (s : State) : Result := .next (event s (reached s.eeu.fuelTimer 100 s.now) feedFuel)

/-- FEED_TIMER (R161). -/
def execFeedTimer (s : State) : Result := .next (event s (reached s.eeu.feedTimer 1000 s.now) feedRuns)

end Sys2Proof.Machine
end

