-- ==== Sys2Proof/Machine/Monitors.lean ====
section
/-! DEFINITION. The response monitors at a pose and at their limit (R123, R125, R126), and the EVU's handling of a
pose arrival (R112). -/

namespace Sys2Proof.Machine

/-- The monitor of a function. -/
abbrev monitorOf (s : State) (f : HydFn) : Monitor := perFnGet s.evu.monitors f

/-- The state with the monitor of a function replaced. -/
def setMonitor (f : HydFn) (m : Monitor) (s : State) : State :=
  { s with evu.monitors := perFnSet s.evu.monitors f m }

/-- A violation counted and handed to the VIOLATIONS meter (R126). -/
def violation (f : HydFn) (s : State) : State :=
  increment .violations 1
    (setMonitor f { monitorOf s f with violations := min 255 ((monitorOf s f).violations + 1) } s)

/-- The compliance bound of a function (R123). -/
def complianceBound (s : State) (f : HydFn) : Int :=
  ((capRow s f).granted * calFullRate s.rts.cal f / 100 + calFullRate s.rts.cal f / 10 : Nat)

/-- An ARMED monitor is tested once its arming grant has been acknowledged (R123). -/
def testable (s : State) (f : HydFn) : Bool :=
  (monitorOf s f).armed &&
    match (monitorOf s f).armSeq with
    | some k => !namesEntry s.evu.outstanding k
    | none => false

/-- A response of this many ms is recorded; a late one is a violation with its notice (R123). -/
def respond (f : HydFn) (ms : Nat) (s : State) : State :=
  let s := setMonitor f { disarm (monitorOf s f) with lastResponse := some ms } s
  if calLateThreshold s.rts.cal < ms then
    notify .responseLate (fnIndex f) .warn (some ms) (violation f s)
  else s

/-- The compliance test of one function at a pose; a monitor armed at this very pose is not tested (R123). -/
def testMonitor (before : PerFn Monitor) (s : State) (f : HydFn) : State :=
  if (perFnGet before f).armed && testable s f then
    match ownRate s.gmu.pose f with
    | some r =>
      if r ≤ complianceBound s f then
        respond f (s.gmu.pose.time.getD 0 - (monitorOf s f).armTime.getD 0) s
      else s
    | none => s
  else s

/-- The EVU at a pose arrival, steps 1 to 5 of R112; the grant of step 6 goes out at the end of the event. The armed
monitors are tested one after another in the order of the functions, each with its violation and notice before the next
(DESIGN CHOICE, log 8). -/
def capsPose (s : State) : State :=
  let before := s.evu.monitors
  match s.mdc.mode with
  | .parked | .working =>
    allFns.foldl (testMonitor before)
      (disarmEnded (riseCaps (formCaps (releaseHolds (formCaps (evaluateFences s))))))
  | .service =>
    allFns.foldl (testMonitor before) (disarmEnded (riseCaps (formCaps (releaseHolds (formCaps s)))))
  | .start | .halt | .closing | .sleep => formCaps (releaseHolds (formCaps s))

/-- A monitor has stood ARMED for 2,000 ms (R125). -/
def responseFailDue (s : State) (f : HydFn) : Bool :=
  (monitorOf s f).armed && reached (monitorOf s f).armTime 2000 s.now

/-- The response-fail hold of a function set, its granted cap at 0 (R125 step 2). -/
def holdFunction (f : HydFn) (s : State) : State :=
  let s := formCaps { s with evu.caps := perFnSet s.evu.caps f { capRow s f with hold := true } }
  { s with evu.caps := perFnSet s.evu.caps f { capRow s f with granted := 0 } }

/-- A failed response (R125), and the summary that its violation may change (R171). -/
def failResponse (f : HydFn) (s : State) : State :=
  let t := notify .responseFail (fnIndex f) .fault (some 2000) (holdFunction f (violation f s))
  settleSummary s (setMonitor f (disarm (monitorOf t f)) t)

end Sys2Proof.Machine
end

