-- ==== Sys2Proof/Machine/ExecMachine.lean ====
section
/-! DEFINITION. The meanings of the machine link frames and of the EVU's marks (R6, R104, R118 to R125, R129, R134,
R140, R151, R157, R187). -/

namespace Sys2Proof.Machine

/-- The lockout state that a PVC_STATE byte reports (R182; log 9). -/
def lockoutReport (code : Nat) : Lockout :=
  if code = 0 then .engaged else if code = 1 then .released else Config.lockoutOfCode code

/-- The mode that a PVC_STATE calls for (R6): only PARKED and WORKING follow the lockout. -/
def followLockout (s : State) : State :=
  match s.mdc.mode, s.mdc.lockout with
  | .parked, .released => enterMode .working s
  | .working, .engaged => enterMode .parked s
  | _, _ => s

/-- The MDC at a PVC_STATE (R6). -/
def takeLockout (l : Lockout) (s : State) : State := followLockout { s with mdc.lockout := l }

/-- The EVU at a PVC_STATE (R119, R120). -/
def takeAcknowledge (k : Nat) (s : State) : State :=
  let l := acknowledge s.evu.outstanding k
  let s' := { s with evu.outstanding := l }
  if s.evu.unconfirmed && l.isEmpty then
    notify .grantUnconfirmed 0 .info (some 0) { s' with evu.unconfirmed := false }
  else s'

/-- The PVC silence timer at a PVC_STATE (R187). -/
def hearPvc (s : State) : State :=
  let s' := { s with lnc.pvcTimer := some s.now }
  if s.lnc.pvcSilent then notify .pvcSilent 2 .info none { s' with lnc.pvcSilent := false } else s'

/-- A PVC_STATE in its owners, in the order MDC, EVU, EEU, silence timer (R179; log 8). -/
def pvcStateEvent (demand : Nat) (l : Lockout) (oil : Int) (applied : Nat) (g1 g2 : Bool) (s : State) : State :=
  let released := s.mdc.lockout == .engaged && l == .released
  let s := takeAcknowledge applied (takeLockout l s)
  let s := takeOil oil (takeDemand demand (groupReport .e2 g2 (groupReport .e1 g1 s)))
  hearPvc (if released then ladderReturn s else s)

/-- PVC_STATE (R6, R119, R134, R140, R151, R157, R187). -/
def execPvcState (demand lockout : Nat) (oil : Int) (applied : Nat) (g1 g2 : Bool) (s : State) : Result :=
  .next (event s true (pvcStateEvent demand (lockoutReport lockout) oil applied g1 g2))

/-- Some demand is at 5 % or more (R151, R153). -/
def leverMoved (d : PerFn Nat) : Bool := (perFnList d).any fun v => decide (5 ≤ v)

/-- A PVC_LEVERS frame: the lever record, the idle hold, the caps, the ladder (R104, R116, R124, R125, R151,
R153). -/
def pvcLeversEvent (d : PerFn Nat) (s : State) : State :=
  let s := recordLevers d s
  let s := if leverMoved d then { s with eeu.idleHold := false } else s
  let s := leverCaps s
  if leverMoved d then ladderReturn s else s

/-- PVC_LEVERS (R104). -/
def execPvcLevers (d : PerFn Nat) (s : State) : Result := .next (event s true (pvcLeversEvent d))

/-- The lever record's staleness mark is reached (R104). -/
def leversStaleDue (s : State) : Bool := s.evu.levers.fresh && reached s.evu.levers.arrival 100 s.now

/-- LEVER_STALENESS_MARK (R104). -/
def execLeverStalenessMark (s : State) : Result :=
  .next (event s (leversStaleDue s) fun s => { s with evu.levers.fresh := false })

/-- ENGINE_STATUS (R129): an UNUSED slot discards it, and so is a frame with an unknown engine state. -/
def execEngineStatus (e : Engine) (code speed : Nat) (coolant : Int) (fuelRate load : Nat) (noStop : Bool)
    (s : State) : Result :=
  .next (match runStateOfCode code with
    | some st => event s ((slotGet s e).state != .unused)
        (takeStatus e { state := st, speed, coolant, fuelRate := min fuelRate 20000, load, noStop })
    | none => s)

/-- FRAME_DISCARDED (R179): a frame that no dispatcher takes still counts as heard on link B. -/
def execFrameDiscarded (link : Link) (_kind node _len : Nat) (s : State) : Result :=
  .next (event s true fun s => if link = .b then heardOnB node s else s)

/-- GRANT_REFRESH (R118): the same grant handed over again. -/
def execGrantRefresh (s : State) : Result :=
  .next (event s (reached s.evu.refresh 100 s.now) fun s =>
    { s with evu.refresh := some s.now, lnc.txGrant := grantFrames s.evu.grant })

/-- The GRANT_UNCONFIRMED condition raised (R120). -/
def raiseUnconfirmed (s : State) : State :=
  notify .grantUnconfirmed 0 .warn (some s.evu.grant.seq) { s with evu.unconfirmed := true }

/-- GRANT_UNCONFIRMED (R120). -/
def execGrantUnconfirmed (s : State) : Result := .next (event s (unconfirmedDue s) raiseUnconfirmed)

/-- RESPONSE_FAIL_TIMEOUT (R125). -/
def execResponseFailTimeout (f : HydFn) (s : State) : Result :=
  .next (event s (responseFailDue s f) (failResponse f))

end Sys2Proof.Machine
end

