-- ==== Sys2Proof/Machine/Sensor.lean ====
section
/-! DEFINITION. The Sensor Intake Unit: what a sample, the staleness mark and the failure mark do to a channel
record (R19 to R31), and the notice of a change of state (R33). -/

namespace Sys2Proof.Machine

/-- One value of a sample lies within the step limit of a reference value (R23): round the circle for
SLEW_ENC, plainly otherwise. -/
def withinStep (ch : Channel) (v ref : Int) : Bool :=
  match ch with
  | .slewEnc => decide ((norm180 (v - ref)).natAbs ≤ stepLimit ch)
  | _ => decide ((v - ref).natAbs ≤ stepLimit ch)

/-- A value lies in the channel's plausible range (R17). -/
def plausibleValue (ch : Channel) (v : Int) : Bool :=
  decide ((plausibleRange ch).1 ≤ v) && decide (v ≤ (plausibleRange ch).2)

/-- A sample is plausible when every value it carries is (R22). -/
def plausible (ch : Channel) (r : Reading) : Bool :=
  plausibleValue ch r.v1 && (!twoValued ch || plausibleValue ch r.v2)

/-- A sample lies within the step limit of a reference reading, an implausible one never (R22, R23). -/
def near (ch : Channel) (r : Reading) (ref : Option Reading) : Bool :=
  match ref with
  | some q => plausible ch r && withinStep ch r.v1 q.v1 && (!twoValued ch || withinStep ch r.v2 q.v2)
  | none => false

/-- A sample kept as the suspect value: an implausible one never is (R22). -/
def suspectOf (ch : Channel) (r : Reading) : Option Reading := if plausible ch r then some r else none

/-- Acceptance (R27). -/
def acceptSample (r : Reading) (now : Millis) (c : ChannelRec) : ChannelRec :=
  { c with state := .valid, accepted := some r, acceptedAt := some now, markFrom := some now, suspect := none,
           suspectRun := 0, recoveryRun := 0 }

/-- Entry to FAILED (R30). The fault-flag run is kept, also in an entry by the failure mark with a run of 1 or 2, where
R30 says both that the run keeps its value and that it is 0 (DESIGN CHOICE, log 33). -/
def failChannel (c : ChannelRec) : ChannelRec :=
  { c with state := .failed, suspect := none, suspectRun := 0, recoveryRun := 0 }

/-- A flagged sample (R21). -/
def flaggedSample (c : ChannelRec) : ChannelRec :=
  let c1 := { c with flagRun := min 3 (c.flagRun + 1) }
  match c.state with
  | .failed => { c1 with recoveryRun := 0, suspect := none }
  | .absent | .valid | .suspect | .stale => if c1.flagRun = 3 then failChannel c1 else c1

/-- An unflagged new sample, by the state of the channel (R24, R25, R26, R31). The mark of a channel that
becomes SUSPECT from STALE is measured from that entry (R28). -/
def valueSample (ch : Channel) (r : Reading) (now : Millis) (c : ChannelRec) : ChannelRec :=
  match c.state with
  | .absent => if plausible ch r then acceptSample r now c else c
  | .valid | .stale =>
    if near ch r c.accepted then acceptSample r now c
    else { c with state := .suspect, suspect := suspectOf ch r, suspectRun := 1,
                  markFrom := if c.state = .stale then some now else c.markFrom }
  | .suspect =>
    if near ch r c.suspect || near ch r c.accepted then acceptSample r now c
    else if 3 ≤ c.suspectRun + 1 then failChannel c
    else { c with suspectRun := c.suspectRun + 1, suspect := suspectOf ch r }
  | .failed =>
    if !plausible ch r then { c with recoveryRun := 0, suspect := none }
    else if c.recoveryRun = 0 || !near ch r c.suspect then { c with recoveryRun := 1, suspect := some r }
    else if c.recoveryRun = 1 then { c with recoveryRun := 2, suspect := some r }
    else acceptSample r now c

/-- A sample through the repeat check, the fault-flag check and the value checks (R20, R21). -/
def takeSample (ch : Channel) (r : Reading) (counter : Nat) (flag : Bool) (now : Millis) (c : ChannelRec) :
    ChannelRec :=
  if c.counter = some counter then c
  else if flag then flaggedSample { c with counter := some counter }
  else valueSample ch r now { c with counter := some counter, flagRun := 0 }

/-- The staleness mark is reached (R28). -/
def stalenessDue (c : ChannelRec) (now : Millis) : Bool :=
  (c.state == .valid || c.state == .suspect) && reached c.markFrom 50 now

/-- The staleness mark's effect (R28). -/
def staleChannel (c : ChannelRec) : ChannelRec := { c with state := .stale, suspect := none, suspectRun := 0 }

/-- The failure mark is reached (R29). -/
def failureDue (c : ChannelRec) (now : Millis) : Bool :=
  (c.state == .stale || c.state == .suspect) && reached c.acceptedAt 500 now

/-- Replace the record of a channel and notify a change of its state (R33). -/
def updateChannel (ch : Channel) (c : ChannelRec) (s : State) : State :=
  let s' := { s with siu := channelSet s.siu ch c }
  if (channelGet s.siu ch).state = c.state then s'
  else notify .sensorState ch.node (if c.state = .failed then .fault else .info) (some (chStateCode c.state)) s'

end Sys2Proof.Machine
end

