-- ==== Sys2Proof/Machine/ExecSensors.lean ====
section
/-! DEFINITION. The meanings of the sensor intake and pose events (R19 to R31, R36, R52). -/

namespace Sys2Proof.Machine

/-- SENSOR_SAMPLE (R19). -/
def execSensorSample (ch : Channel) (v1 v2 : Int) (counter : Nat) (flag : Bool) (s : State) : Result :=
  .next (event s true fun s =>
    updateChannel ch (takeSample ch (readingOf ch v1 v2) counter flag s.now (channelGet s.siu ch)) s)

/-- STALENESS_MARK (R28). -/
def execStalenessMark (ch : Channel) (s : State) : Result :=
  .next (event s (stalenessDue (channelGet s.siu ch) s.now) fun s =>
    updateChannel ch (staleChannel (channelGet s.siu ch)) s)

/-- FAILURE_MARK (R29). -/
def execFailureMark (ch : Channel) (s : State) : Result :=
  .next (event s (failureDue (channelGet s.siu ch) s.now) fun s =>
    updateChannel ch (failChannel (channelGet s.siu ch)) s)

/-- The slew travel increment of a publication, from the slew difference of its expiry (R50). -/
def slewTravel (d : Option Int) (s : State) : State :=
  match d with
  | some d => increment .slewTravel d.natAbs s
  | none => s

/-- A pose published and taken by its three users, in the order EVU, PLU, SVU (R36, R52; log 8). -/
def poseEvent (s : State) : State :=
  settleSummary s (slewTravel (slewDiff s.siu s.gmu.rateMem) (payloadPose (capsPose (publishPose s))))

/-- POSE_TIMER (R36). -/
def execPoseTimer (s : State) : Result := .next (event s (reached s.gmu.poseTimer 20 s.now) poseEvent)

/-- POSE_REPORT_TIMER (R52): no report until the first pose after a reset. -/
def poseReport (s : State) : State :=
  let s' := { s with lnc.poseReport := s.lnc.poseReport.map (· + 100) }
  if s.gmu.pose.seq = 0 then s'
  else { s' with lnc.txPose := [.poseReport0 s.gmu.pose, .poseReport1 s.gmu.pose] }

/-- POSE_REPORT_TIMER (R52). -/
def execPoseReportTimer (s : State) : Result :=
  .next (event s (reached s.lnc.poseReport 100 s.now) poseReport)

end Sys2Proof.Machine
end

