-- ==== Sys2Proof/Machine/ExecStore.lean ====
section
/-! DEFINITION. The meanings of the service, clock, link and store events (R92, R165, R168, R172, R181, R187, R188,
R194, R195). -/

namespace Sys2Proof.Machine

/-- The modes in which the save timer and the reminder timer run (R165, R172). -/
def bookMode (m : PartMode) : Bool := m == .parked || m == .working || m == .service || m == .halt

/-- The save timer has expired (R165). -/
def saveDue (s : State) : Bool := bookMode s.mdc.mode && reached s.svu.saveTimer 360000 s.now

/-- SAVE_TIMER (R165). -/
def execSaveTimer (s : State) : Result :=
  .next (event s (saveDue s) fun s =>
    askSave .meters { s with svu.saveTimer := s.svu.saveTimer.map (· + 360000) })

/-- The reminder timer has expired (R172). -/
def reminderDue (s : State) : Bool := bookMode s.mdc.mode && reached s.svu.reminderTimer 900000 s.now

/-- REMINDER_TIMER (R172). -/
def execReminderTimer (s : State) : Result :=
  .next (event s (reminderDue s) fun s =>
    remind { s with svu.reminderTimer := s.svu.reminderTimer.map (· + 900000) })

/-- The clock is valid and passes a whole second (R196). -/
def secondDue (s : State) : Bool := s.clock.time.isSome && decide (s.clock.mark + 1000 ≤ s.now)

/-- The clock's next second; past the top of its range a free value within it (R196; log 12). -/
def nextSecond (t : Nat) : Nat := if t < 4294967295 then t + 1 else (Config.clockAfterTop t).toNat

/-- The clock counts a second (R196). -/
def countSecond (s : State) : State :=
  { s with clock.time := s.clock.time.map nextSecond, clock.mark := s.clock.mark + 1000 }

/-- CLOCK_SECOND (R168, R196): the clock counts in every mode and on the backup supply; an awake part compares it
with the day mark. -/
def execClockSecond (s : State) : Result :=
  .next (if secondDue s then
      if awake s then endEvent s (settleSummary s (compareCalendar (countSecond s))) else countSecond s
    else s)

/-- The PVC silence timer has reached 500 ms outside CLOSING and the condition does not stand (R187). -/
def pvcSilentDue (s : State) : Bool :=
  s.mdc.mode != .closing && !s.lnc.pvcSilent && reached s.lnc.pvcTimer 500 s.now

/-- PVC_SILENT (R187). -/
def execPvcSilent (s : State) : Result := .next (event s (pvcSilentDue s) raisePvcSilent)

/-- TOKEN_SILENCE (R92). -/
def execTokenSilence (s : State) : Result := .next (event s (tokenSilent s) takeSilence)

/-- FRAME_TRANSMIT (R181): the controller of a link becomes free and takes the first waiting frame. -/
def execFrameTransmit (l : Link) (s : State) : Result := .next (event s true (freeController l))

/-- The write in flight at its completion, if any (R194). -/
def endWrite (s : State) : State :=
  match s.rts.inFlight with
  | some w => writeDone w s
  | none => s

/-- REGION_WRITE_COMPLETE (R194). -/
def execRegionWriteComplete (s : State) : Result := .next (event s s.rts.inFlight.isSome endWrite)

/-- The write in flight at its failure, if any (R195). -/
def breakWrite (s : State) : State :=
  match s.rts.inFlight with
  | some w => writeFailed w s
  | none => s

/-- REGION_WRITE_FAIL (R195). -/
def execRegionWriteFail (s : State) : Result := .next (event s s.rts.inFlight.isSome breakWrite)

/-- 10 ms have passed since a NOTICE was handed over (R188). -/
def spacingDue (s : State) : Bool := reached s.lnc.lastNotice 10 s.now

/-- NOTICE_SPACING_ELAPSED (R188): a free controller takes the head of the notice queue at the end of the
event. -/
def execNoticeSpacingElapsed (s : State) : Result := .next (event s (spacingDue s) id)

end Sys2Proof.Machine
end

