-- ==== Sys2Proof/Machine/Clock.lean ====
section
/-! DEFINITION. The passage of time: what the block does on an empty queue (log 1). One millisecond passes, and the
marks that are then reached join the queue, in an order that is a free value. -/

namespace Sys2Proof.Machine

/-- A mark with the command it is. -/
abbrev Mark := Bool × Instr

/-- The marks of the sensor channels (R28, R29). -/
def channelMarks (s : State) : List Mark :=
  allChannels.flatMap fun ch =>
    [(stalenessDue (channelGet s.siu ch) s.now, .stalenessMark ch),
      (failureDue (channelGet s.siu ch) s.now, .failureMark ch)]

/-- The marks of one engine slot (R130, R131, R135 to R139). -/
def engineMarks (s : State) (e : Engine) : List Mark :=
  [(silenceDue s e, .engineSilence e), (reached (slotGet s e).requestTimer 200 s.now, .engineRequestRefresh e),
    (slotDue s e .starting 20000, .startTimeout e), (slotDue s e .joining 750, .joinRefused e),
    (slotDue s e .leaving 750, .leaveRefused e), (slotDue s e .cooldown 180000, .cooldownEnd e),
    (slotDue s e .stopping 30000, .stopTimeout e), (reached (slotGet s e).retry 30000 s.now, .retryWaitEnd e)]

/-- The loading has run its 400 ms (R193); the feed timer still shows the time since the reset. -/
def loadingDue (s : State) : Bool := s.mdc.mode == .start && reached s.eeu.feedTimer 400 s.now

/-- The write in flight has run its 250 ms (R194). -/
def writeDue (s : State) : Bool :=
  match s.rts.inFlight with
  | some w => decide (w.since + 250 ≤ s.now)
  | none => false

/-- The end that a write run to its 250 ms takes: a free outcome (R194, R195; log 13). -/
def writeEnd (now : Millis) : Instr := if Config.writeVerifies now then .regionWriteComplete else .regionWriteFail

/-- A notice waits for nothing but its spacing (R188). -/
def spacingMark (s : State) : Bool :=
  spacingDue s && s.lnc.ctlB.isNone && s.lnc.replies.isEmpty && s.lnc.txPose.isEmpty && !s.lnc.notices.isEmpty

/-- The marks of an awake part. -/
def awakeMarks (s : State) : List Mark :=
  [(loadingDue s, .loadingComplete), (stSilenceDue s, .stSilenceTimeout)] ++ channelMarks s ++
    [(reached s.gmu.poseTimer 20 s.now, .poseTimer), (reached s.lnc.poseReport 100 s.now, .poseReportTimer),
      (leversStaleDue s, .leverStalenessMark), (reached s.evu.refresh 100 s.now, .grantRefresh),
      (unconfirmedDue s, .grantUnconfirmed)] ++
    allFns.map (fun f => (responseFailDue s f, .responseFailTimeout f)) ++
    engineMarks s .e1 ++ engineMarks s .e2 ++
    [(holdDue s.eeu.joinHold 10000 s.now, .joinHoldReached), (holdDue s.eeu.leaveHold 60000 s.now, .leaveHoldReached),
      (autoIdleDue s, .autoIdleTimeout), (lockoutDue s, .lockoutTimeout), (shutdownDelayDue s, .shutdownDelayEnd),
      (countdownStepDue s, .countdownStep), (countdownEndDue s, .countdownEnd),
      (reached s.eeu.fuelTimer 100 s.now, .fuelTimer), (reached s.eeu.feedTimer 1000 s.now, .feedTimer),
      (saveDue s, .saveTimer), (reminderDue s, .reminderTimer), (pvcSilentDue s, .pvcSilent),
      (tokenSilent s, .tokenSilence), (writeDue s, writeEnd s.now), (spacingMark s, .noticeSpacingElapsed)]

/-- The marks of a part in any condition. -/
def allMarks (s : State) : List Mark :=
  [(keyDue .off s, .keyOffTaken), (keyDue .on s, .keyOnTaken), (secondDue s, .clockSecond)] ++
    (if awake s then awakeMarks s else [])

/-- The marks reached, as commands. -/
def dueMarks (s : State) : List Instr := (allMarks s).filterMap fun x => if x.1 then some x.2 else none

/-- Commands placed one after another at free places of a queue (log 1). -/
def placeMarks (now : Millis) : Nat → List Instr → List Instr → List Instr
  | _, [], acc => acc
  | k, i :: rest, [] => placeMarks now (k + 1) rest [i]
  | k, i :: rest, a :: acc =>
    placeMarks now (k + 1) rest ((a :: acc).insertIdx (Config.tiePlace now k % (acc.length + 2)) i)

/-- One millisecond passes, and the marks then reached join the queue. -/
def passMillisecond (s : State) : State :=
  let s := { s with now := s.now + 1 }
  { s with pending := placeMarks s.now 0 (dueMarks s) [] }

/-- What the block does on an empty queue: an entry to SLEEP or a reset that is due takes place at once (R11,
R14); else a millisecond passes. -/
def tick (s : State) : State :=
  if sleepDue s then { s with pending := [.enterSleep] }
  else if partResetDue s then { s with pending := [.partResetTakesEffect] }
  else passMillisecond s

end Sys2Proof.Machine
end

