-- ==== Sys2Proof/Machine/Commands.lean ====
section
/-! DEFINITION. What every command of a cab-link master shares: the frame heard, the full reply queue, the half-write,
the refusal in START, the reply (R4, R8, R92, R183, R184); and the checks of the edit session (R94). -/

namespace Sys2Proof.Machine

/-- What the owner of a command gives back: the state, the answer (none for a COMMIT accepted for writing), and
the record content of a READ. -/
structure Done where
  state : State
  answer : Option Answer
  content : List Byte

/-- An answer over a state. -/
def answered (a : Answer) (s : State) : Done := { state := s, answer := some a, content := [] }

/-- ACCEPTED with no stated detail. -/
def accepted (s : State) : Done := answered (plain .accepted) s

/-- ACCEPTED with a detail. -/
def acceptedDetail (d : Int) (s : State) : Done := answered (acceptedWith d) s

/-- A refusal: nothing changes. -/
def refusal (r : ReplyResult) (s : State) : Done := answered (plain r) s

/-- A check before the rest of a command: the first that fails gives the reply. -/
def require (c : Bool) (r : ReplyResult) (k : State → Done) (s : State) : Done :=
  if c then k s else refusal r s

/-- The code of READ (R182). -/
def readCode : Nat := 1

/-- A half-write is discarded by any other command from the holder than a FENCE_WRITE (R184). -/
def dropHalf (m : Master) (code : Nat) (s : State) : State :=
  if holds m s && code != 7 && code != 8 then { s with lnc.half := none } else s

/-- The reply placed, when the owner gives one (R183). -/
def reply (m : Master) (code : Nat) (d : Done) : State :=
  match d.answer with
  | some a => placeReply code a m d.content d.state
  | none => d.state

/-- A command whose CRC is right, carried out by its owner; in START every command but READ is refused (R4,
R183). -/
def carryOut (m : Master) (code : Nat) (body : State → Done) (s : State) : State :=
  if s.mdc.mode = .start ∧ code ≠ readCode then reply m code (refusal .refusedState s)
  else reply m code (body (dropHalf m code s))

/-- A command while 8 replies wait is not carried out (R183). Every reply in the queue counts toward the 8, that of a commit
too once it has been placed there (DESIGN CHOICE, log 39). -/
def commandEvent (m : Master) (code : Nat) (body : State → Done) (s : State) : State :=
  let s := heardOnB m.node s
  if 8 ≤ s.lnc.replies.length then { s with lnc.commandDropped := true } else carryOut m code body s

/-- A COMMAND frame of a master (R183); none is taken in SLEEP (R179). -/
def command (m : Master) (code : Nat) (body : State → Done) (s : State) : State :=
  event s true (commandEvent m code body)

/-! ### Roles and checks -/

/-- From the ST only. -/
def isSt (m : Master) : Bool := m == .st

/-- From the CDT only. -/
def isCdt (m : Master) : Bool := m == .cdt

/-- The role table for a subject's region (R94). -/
def mayEdit (m : Master) : Region → Bool
  | .fences => true
  | .items => m == .tg || m == .st
  | .calibration => m == .st
  | .settings | .meters | .trucks => false

/-- Steps 2 to 4 of R94: role, token, no commit in progress. -/
def editing (m : Master) (role : Bool) (k : State → Done) (s : State) : Done :=
  require role .refusedRole
    (require (holds m s) .refusedToken (require (!committing s) .refusedBusy k)) s

/-- The staging replaced. -/
def stage (x : Staged) (s : State) : State := { s with rts.token.staging := some x }

/-- An index below a bound, or REFUSED_RANGE (R94 step 6). -/
def withIndex (n bound : Nat) (k : Fin bound → State → Done) (s : State) : Done :=
  if h : n < bound then k ⟨n, h⟩ s else refusal .refusedRange s

end Sys2Proof.Machine
end

