-- ==== Sys2Proof/Machine/ExecControl.lean ====
section
/-! DEFINITION. The meanings of the selection, lock, mode, restart and cab commands (R7, R8, R14 to R16, R53, R54,
R75, R82 to R84, R153, R186). -/

namespace Sys2Proof.Machine

/-! ### Selection and lock -/

/-- The active set changed (R82, R83, R114): the terms lowered for validity, the notice, the save; nothing when
it was the active set already. -/
def selectActive (a : Option (Fin 4)) (s : State) : State :=
  if s.evu.fences.active = a then s
  else
    let s := formCaps (lowerFences { s with evu.fences.active := a })
    askSave .fences
      (notify .activeSet 0 .info (some (match a with | some n => n.val | none => 4)) s)

/-- SELECT_SET (R82). -/
def execSelectSet (m : Master) (n : Nat) (s : State) : Result :=
  .next (command m 15 (withIndex n 4 fun n s =>
    require (!s.evu.dataLost && workMode s.mdc.mode) .refusedState (fun s => accepted (selectActive (some n) s)) s) s)

/-- SELECT_SET NONE in PARKED (R83): while FENCE_DATA_LOST stands, from the ST only, and then it clears. -/
def selectNone (m : Master) : State → Done := fun s =>
  require (!s.evu.dataLost || isSt m) .refusedState
    (fun s => accepted (clearDataLost false (selectActive none s))) s

/-- SELECT_SET NONE (R83). -/
def execSelectSetNone (m : Master) (s : State) : Result :=
  .next (command m 15 (fun s => require (s.mdc.mode == .parked) .refusedState (selectNone m) s) s)

/-- The fence lock set (R84): a change is notified and saved. -/
def setLock (on : Bool) (s : State) : State :=
  if s.evu.fences.lock = on then s
  else askSave .fences (notify .fenceLock 0 .info (some (bit on)) { s with evu.fences.lock := on })

/-- LOCK_FENCES (R84). -/
def execLockFences (m : Master) (s : State) : Result :=
  .next (command m 16 (require (isSt m) .refusedRole fun s => accepted (setLock true s)) s)

/-- UNLOCK_FENCES (R84). -/
def execUnlockFences (m : Master) (s : State) : Result :=
  .next (command m 17 (require (isSt m) .refusedRole fun s =>
    require (!s.evu.dataLost) .refusedState (fun s => accepted (setLock false s)) s) s)

/-! ### Modes and restarts -/

/-- ENTER_SERVICE (R7). -/
def execEnterService (m : Master) (s : State) : Result :=
  .next (command m 18 (require (isSt m) .refusedRole fun s =>
    require (s.mdc.mode == .parked) .refusedState (fun s => accepted (enterMode .service s)) s) s)

/-- EXIT_SERVICE (R8). -/
def execExitService (m : Master) (s : State) : Result :=
  .next (command m 19 (require (isSt m) .refusedRole fun s =>
    require (s.mdc.mode == .service) .refusedState (fun s => accepted (enterMode (modeByLockout s) s)) s) s)

/-- PART_RESET taken (R14): a reset already asked for stays; with a write in flight the reset is pending; else it
is due once the replies waiting, this one's included, have been handed over. -/
def askReset (s : State) : State :=
  if s.mdc.resetPending || s.mdc.resetWait.isSome then s
  else if s.rts.inFlight.isSome then { s with mdc.resetPending := true }
  else { s with mdc.resetWait := some (s.lnc.replies.length + 1), mdc.sleepWait := none }

/-- PART_RESET (R14). -/
def execPartReset (m : Master) (s : State) : Result :=
  .next (command m 20 (require (isSt m) .refusedRole fun s => accepted (askReset s)) s)

/-- ENGINE_RESET (R16). -/
def execEngineReset (m : Master) (s : State) : Result :=
  .next (command m 21 (require (isSt m) .refusedRole fun s =>
    require (s.mdc.mode != .closing) .refusedState (fun s => accepted (restartEngines s)) s) s)

/-- The eight violation counts at 0 (R16). -/
def zeroViolations (s : State) : State :=
  { s with evu.monitors := perFnOf fun f => { perFnGet s.evu.monitors f with violations := 0 } }

/-- CLEAR_VIOLATIONS (R16). -/
def execClearViolations (m : Master) (s : State) : Result :=
  .next (command m 22 (require (isSt m) .refusedRole fun s => accepted (askSave .meters (zeroViolations s))) s)

/-- The latch with every fault whose condition is gone removed (R15). -/
def clearLatch (s : State) : State := { s with lnc.latch := s.lnc.latch.filter (standing s) }

/-- CLEAR_FAULTS (R15): the detail is the number of faults still latched. -/
def execClearFaults (m : Master) (s : State) : Result :=
  .next (command m 23 (require (isCdt m || isSt m) .refusedRole fun s =>
    acceptedDetail (clearLatch s).lnc.latch.length (clearLatch s)) s)

/-! ### Grade -/

/-- The grade target with three new values; stop and margin are kept, or start at off and 300 (R53). -/
def gradeWith (old : Option Grade) (z sl x : Int) : Grade :=
  match old with
  | some g => { g with zRef := z, slope := sl, xRef := x }
  | none => { zRef := z, slope := sl, xRef := x, stop := false, margin := 300 }

/-- SET_GRADE (R53). -/
def setGrade (zRef slope xRef : Int) (s : State) : Done :=
  let z := clampArg (-32767) 32767 zRef
  let sl := clampArg (-10000) 10000 slope
  let x := clampArg (-32767) 32767 xRef
  answered (clampAnswer [z, sl, x]) { s with gmu.grade := some (gradeWith s.gmu.grade z.value sl.value x.value) }

/-- SET_GRADE (R53). -/
def execSetGrade (m : Master) (zRef slope xRef : Int) (s : State) : Result :=
  .next (command m 24 (require (isCdt m) .refusedRole (setGrade zRef slope xRef)) s)

/-- SET_GRADE_STOP by case (R54). With no target the stop argument is not looked at (DESIGN CHOICE, log 19). -/
def setGradeStop (stop margin : Nat) (s : State) : Done :=
  match s.gmu.grade with
  | none => refusal .refusedState s
  | some g =>
    if 1 < stop then refusal .refusedRange s
    else
      let w := clampArg 100 1000 margin
      answered (clampAnswer [w])
        { s with gmu.grade := some { g with stop := stop == 1, margin := w.value.toNat } }

/-- SET_GRADE_STOP (R54). -/
def execSetGradeStop (m : Master) (stop margin : Nat) (s : State) : Result :=
  .next (command m 25 (require (isCdt m) .refusedRole (setGradeStop stop margin)) s)

/-- CLEAR_GRADE (R54). -/
def execClearGrade (m : Master) (s : State) : Result :=
  .next (command m 26 (require (isCdt m) .refusedRole fun s => accepted { s with gmu.grade := none }) s)

/-! ### Truck, idle hold, settings -/

/-- TRUCK_DONE by case (R75). -/
def truckDone (s : State) : Done :=
  match s.plu.truck with
  | some t => acceptedDetail (t.number : Nat) (settleSummary s (closeTruck t s))
  | none => refusal .refusedState s

/-- TRUCK_DONE (R75). -/
def execTruckDone (m : Master) (s : State) : Result :=
  .next (command m 27 (require (isCdt m) .refusedRole truckDone) s)

/-- The idle hold set (R153). -/
def setIdleHold (s : State) : State :=
  if s.eeu.idleHold then s else ladderReturn { s with eeu.idleHold := true }

/-- IDLE_HOLD (R153). -/
def execIdleHold (m : Master) (s : State) : Result :=
  .next (command m 36 (require (isCdt m) .refusedRole fun s =>
    require (s.mdc.mode != .closing) .refusedState (fun s => accepted (setIdleHold s)) s) s)

/-- The users of a changed setting act in the same event (R186): the auto-idle timer (R147), the shutdown delay
timer (R149), the open truck (R74). The effective mode follows at the end of the event (R158). -/
def reactSettings (old : Settings) (s : State) : State :=
  let x := s.eeu.settings
  let s := if x.autoIdle = old.autoIdle then s else compareAutoIdle s
  let s := if x.shutdown = old.shutdown then s else compareShutdown s
  if x.truckTarget = old.truckTarget then s else retargetTruck s

/-- The live settings replaced; a change asks for SETTINGS and reaches their users (R186). -/
def changeSettings (x : Settings) (s : State) : State :=
  if x = s.eeu.settings then s
  else reactSettings s.eeu.settings (askSave .settings { s with eeu.settings := x })

/-- The power mode with a SELECT_MODE code (R182). -/
def selectableMode : Nat → Option PowerMode
  | 1 => some .economy
  | 2 => some .standard
  | 3 => some .peak
  | _ => none

/-- SELECT_MODE by case (R186). -/
def selectMode (code : Nat) (s : State) : Done :=
  match selectableMode code with
  | some p => accepted (changeSettings { s.eeu.settings with mode := p } s)
  | none => refusal .refusedRange s

/-- SELECT_MODE (R186). -/
def execSelectMode (m : Master) (code : Nat) (s : State) : Result :=
  .next (command m 33 (require (isCdt m) .refusedRole (selectMode code)) s)

/-- The shutdown delay kept at 0 or clamped (R186). -/
def clampShutdown (v : Nat) : Clamped :=
  if v = 0 then { value := 0, changed := false } else clampArg 5 60 v

/-- SET_IDLE with its clamping (R186). -/
def setIdle (autoIdle shutdown : Nat) (s : State) : Done :=
  let a := clampArg 2 30 autoIdle
  let d := clampShutdown shutdown
  answered (clampAnswer [a, d])
    (changeSettings { s.eeu.settings with autoIdle := a.value.toNat, shutdown := d.value.toNat } s)

/-- SET_IDLE (R186). -/
def execSetIdle (m : Master) (autoIdle shutdown : Nat) (s : State) : Result :=
  .next (command m 34 (require (isCdt m) .refusedRole (setIdle autoIdle shutdown)) s)

/-- SET_TRUCK_TARGET with its clamping (R186, R74). -/
def setTarget (kg : Nat) (s : State) : Done :=
  let t := clampArg 0 200000 kg
  answered (clampAnswer [t]) (changeSettings { s.eeu.settings with truckTarget := t.value.toNat } s)

/-- SET_TRUCK_TARGET (R186). -/
def execSetTruckTarget (m : Master) (kg : Nat) (s : State) : Result :=
  .next (command m 35 (require (isCdt m) .refusedRole (setTarget kg)) s)

end Sys2Proof.Machine
end

