-- ==== Sys2Proof/Machine/ExecReads.lean ====
section
/-! DEFINITION. The meanings of the bad commands and of the reads (R183, R185, and the owners' R34, R52, R78, R81,
R178, R189). -/

namespace Sys2Proof.Machine

/-- COMMAND_CRC_ERROR (R183): the frame is ignored whole but for the COMMAND_CRC flag. -/
def execCommandCrcError (s : State) : Result :=
  .next (event s true fun s => { s with lnc.commandCrc := true })

/-- UNKNOWN_COMMAND (R183); with the code of READ, a READ of a record kind that does not exist (R185). -/
def execUnknownCommand (m : Master) (code : Nat) (s : State) : Result :=
  .next (command m code (refusal .refusedRange) s)

/-- The answer of a READ: ACCEPTED with the frame count as detail, and the content (R185). -/
def record (content : List Byte) (s : State) : Done :=
  { state := s, answer := some (acceptedWith (recordCount content)), content }

/-- The three flags that a READ of STATUS clears (R189). -/
def clearFlags (s : State) : State :=
  { s with lnc.commandCrc := false, lnc.commandDropped := false, lnc.noticeOverflow := false }

/-- READ STATUS (R189): the flags are shown, then cleared. -/
def execReadStatus (m : Master) (s : State) : Result :=
  .next (command m readCode (fun s => record (statusRecord s) (clearFlags s)) s)

/-- READ POSE (R52). -/
def execReadPose (m : Master) (s : State) : Result :=
  .next (command m readCode (fun s => record (poseRecord s.gmu.pose) s) s)

/-- READ CHANNELS (R34). -/
def execReadChannels (m : Master) (s : State) : Result :=
  .next (command m readCode (fun s => record (channelsRecord s) s) s)

/-- READ FENCE SET (R81). -/
def execReadFenceSet (m : Master) (n : Nat) (s : State) : Result :=
  .next (command m readCode (withIndex n 4 fun n s => record (fenceSetRecord s.evu.fences n) s) s)

/-- READ ITEM (R178). -/
def execReadItem (m : Master) (k : Nat) (s : State) : Result :=
  .next (command m readCode (withIndex k 32 fun k s => record (itemRecord (itemAt s k)) s) s)

/-- READ METERS (R178). -/
def execReadMeters (m : Master) (s : State) : Result :=
  .next (command m readCode (fun s => record (metersRecord s) s) s)

/-- READ OPEN TRUCK (R78). -/
def execReadOpenTruck (m : Master) (s : State) : Result :=
  .next (command m readCode (fun s => record (openTruckRecord s) s) s)

/-- READ COMPLETED TRUCKS (R78). -/
def execReadCompletedTrucks (m : Master) (s : State) : Result :=
  .next (command m readCode (fun s => record (completedRecord s) s) s)

/-- READ SETTINGS (R185). -/
def execReadSettings (m : Master) (s : State) : Result :=
  .next (command m readCode (fun s => record (settingsRecord s.eeu.settings) s) s)

/-- READ CALIBRATION (R185): for the ST only. -/
def execReadCalibration (m : Master) (s : State) : Result :=
  .next (command m readCode
    (require (isSt m) .refusedRole fun s => record (canonicalCalibration s.rts.cal) s) s)

end Sys2Proof.Machine
end

