-- ==== Sys2Proof/Machine/ExecService.lean ====
section
/-! DEFINITION. The meanings of the commands on items, meters and the clock (R166, R173 to R175, R196). -/

namespace Sys2Proof.Machine

/-- A command on the item at an index: REFUSED_STATE for an EMPTY entry (R173, R174, R175). -/
def onItem (k : Fin 32) (body : Item → State → Done) (s : State) : Done :=
  match itemAt s k with
  | some i => body i s
  | none => refusal .refusedState s

/-- The state code of the item at an index, as a detail (R173, R174, R175). -/
def itemDetail (k : Fin 32) (s : State) : Nat :=
  match itemAt s k with
  | some i => itemStateCode i.state
  | none => 0

/-- ACK_ITEM on an item (R173). -/
def ackItem (k : Fin 32) (i : Item) (s : State) : Done :=
  if i.state = .ok then refusal .refusedState s
  else acceptedDetail (itemStateCode i.state : Nat) (askSave .items (setItem k (some { i with acked := true }) s))

/-- ACK_ITEM (R173). -/
def execAckItem (m : Master) (k : Nat) (s : State) : Result :=
  .next (command m 28 (require (isCdt m) .refusedRole (withIndex k 32 fun k => onItem k (ackItem k))) s)

/-- An item's edit taken: evaluated, the summary formed, ITEMS asked for, the new state as detail (R174, R175). -/
def itemEdited (k : Fin 32) (i : Item) (s : State) : Done :=
  let s := askSave .items (formSummary (evaluateItem k (setItem k (some i) s)))
  acceptedDetail (itemDetail k s : Nat) s

/-- An item as serviced at a meter value and a calendar time (R174). -/
def servicedItem (i : Item) (m : Nat) (date : Option Nat) : Item :=
  { i with defn := { i.defn with lastDone := m, nextDue := m + i.defn.interval }, acked := false,
           extUsed := false, doneDate := date }

/-- SERVICE_DONE on an item (R174). -/
def serviceItem (k : Fin 32) (i : Item) (s : State) : Done :=
  itemEdited k (servicedItem i (meterGet s.svu.meters i.defn.meter) s.clock.time) s

/-- The masters from which SERVICE_DONE is taken (R174). -/
def mayService (m : Master) (s : State) : Bool := !isCdt m || calCdtService s.rts.cal

/-- SERVICE_DONE (R174). -/
def execServiceDone (m : Master) (k : Nat) (s : State) : Result :=
  .next (command m 29 (fun s => require (mayService m s) .refusedRole
    (withIndex k 32 fun k => onItem k (serviceItem k)) s) s)

/-- An item with its extension spent (R175). -/
def extendedItem (i : Item) : Item :=
  { i with defn := { i.defn with nextDue := min nextDueTop (i.defn.nextDue + i.defn.interval / 4) }, extUsed := true }

/-- EXTEND_ITEM on an item (R175). -/
def extendItem (k : Fin 32) (i : Item) (s : State) : Done :=
  if i.extUsed then refusal .refusedState s else itemEdited k (extendedItem i) s

/-- EXTEND_ITEM (R175). -/
def execExtendItem (m : Master) (k : Nat) (s : State) : Result :=
  .next (command m 30 (require (isSt m) .refusedRole (withIndex k 32 fun k => onItem k (extendItem k))) s)

/-- A meter written: value, remainder at 0, METERS_LOST cleared, METERS asked for (R166, R167). -/
def writeMeter (x : Meter) (v : Nat) (s : State) : State :=
  askSave .meters (settleSummary s (setMeter x v (remainderSet x 0 { s with svu.metersLost := false })))

/-- METER_WRITE by case (R166). -/
def meterWrite (code value : Nat) (s : State) : Done :=
  match meterOfCode code with
  | some x =>
    if meterTop < value then
      answered { result := .acceptedClamped, detail := some 65535 } (writeMeter x meterTop s)
    else accepted (writeMeter x value s)
  | none => refusal .refusedRange s

/-- METER_WRITE (R166). -/
def execMeterWrite (m : Master) (code value : Nat) (s : State) : Result :=
  .next (command m 31 (require (isSt m) .refusedRole (meterWrite code value)) s)

/-- The clock set, and the day mark with it (R168, R196). The second in progress starts anew (log 2). -/
def setClock (t : Nat) (s : State) : State :=
  askSave .meters { s with clock := { time := some t, mark := s.now }, svu.dayMark := some t }

/-- SET_CLOCK (R196). -/
def execSetClock (m : Master) (seconds : Nat) (s : State) : Result :=
  .next (command m 32 (require (!isCdt m) .refusedRole fun s => accepted (setClock seconds s)) s)

end Sys2Proof.Machine
end

