-- ==== Sys2Proof/Machine/ExecToken.lean ====
section
/-! DEFINITION. The meanings of the token, staging and commit commands (R88 to R100, R184). -/

namespace Sys2Proof.Machine

/-! ### The token -/

/-- TOKEN_REQUEST outside CLOSING with a policy that exists (R88). -/
def tokenRequest (m : Master) (policy : Nat) (s : State) : Done :=
  match policyOfCode policy with
  | some p =>
    let r := requestToken { who := m, policy := p } s
    acceptedDetail (r.2 : Nat) r.1
  | none => refusal .refusedRange s

/-- TOKEN_REQUEST (R88). -/
def execTokenRequest (m : Master) (policy : Nat) (s : State) : Result :=
  .next (command m 2 (fun s => require (s.mdc.mode != .closing) .refusedState (tokenRequest m policy) s) s)

/-- TOKEN_RELEASE by case (R91). -/
def tokenRelease (m : Master) (s : State) : Done :=
  if holds m s then
    if committing s then refusal .refusedBusy s else accepted (releaseToken s)
  else if waits m s then
    accepted { s with rts.token.waiting := s.rts.token.waiting.filter (·.who != m) }
  else refusal .refusedToken s

/-- TOKEN_RELEASE (R91). -/
def execTokenRelease (m : Master) (s : State) : Result := .next (command m 3 (tokenRelease m) s)

/-- ABANDON by the holder (R98). -/
def abandonStaging (m : Master) (s : State) : Done :=
  accepted (if holdsWhenDone m s then releaseToken s else emptyStaging s)

/-- ABANDON (R98). -/
def execAbandon (m : Master) (s : State) : Result :=
  .next (command m 14 (editing m true (abandonStaging m)) s)

/-! ### Staging -/

/-- STAGE_SET (R94). -/
def execStageSet (m : Master) (n : Nat) (s : State) : Result :=
  .next (command m 4 (editing m (mayEdit m .fences)
    (withIndex n 4 fun n s => accepted (stage (.fenceSet n s.evu.fences.sets[n]) s))) s)

/-- STAGE_ITEM (R94). -/
def execStageItem (m : Master) (k : Nat) (s : State) : Result :=
  .next (command m 5 (editing m (mayEdit m .items)
    (withIndex k 32 fun k s => accepted (stage (.item k ((itemAt s k).map (·.defn)) false false) s))) s)

/-- STAGE_CAL (R94). -/
def execStageCal (m : Master) (s : State) : Result :=
  .next (command m 6 (editing m (mayEdit m .calibration)
    fun s => accepted (stage (.calibration s.rts.cal) s)) s)

/-! ### Fence edits -/

/-- Step 5 of R94 for a fence edit: a fence set is staged. -/
def onStagedSet (k : Fin 4 → FenceSet → State → Done) (s : State) : Done :=
  match s.rts.token.staging with
  | some (.fenceSet n entries) => k n entries s
  | _ => refusal .refusedState s

/-- The first frame of FENCE_WRITE kept as the half-write (R184, R95). -/
def keepHalf (index kind enabled margin creep : Nat) : State → Done :=
  require (decide (index < 8) && fenceKindExists kind && decide (enabled ≤ 1)) .refusedRange fun s =>
    accepted { s with lnc.half := some { index, kind, enabled := enabled == 1, margin, creep } }

/-- FENCE_WRITE, first frame (R184). -/
def execFenceWriteFirst (m : Master) (index kind enabled margin creep : Nat) (s : State) : Result :=
  .next (command m 7 (editing m (mayEdit m .fences)
    (onStagedSet fun _ _ => keepHalf index kind enabled margin creep)) s)

/-- The staged entry written whole from both frames (R95, R184). -/
def completeFence (n : Fin 4) (entries : FenceSet) (index : Fin 8) (word1 word2 : Nat) (s : State) : Done :=
  match s.lnc.half with
  | some h =>
    if h.index = index.val then
      let e := writtenFence entries[index] h word1 word2
      answered e.answer
        (stage (.fenceSet n (entries.set index (some e.value))) { s with lnc.half := none })
    else refusal .refusedState s
  | none => refusal .refusedState s

/-- FENCE_WRITE, second frame (R184). -/
def execFenceWriteSecond (m : Master) (index word1 word2 : Nat) (s : State) : Result :=
  .next (command m 8 (editing m (mayEdit m .fences)
    (onStagedSet fun n entries => withIndex index 8 fun i => completeFence n entries i word1 word2)) s)

/-- The applicability sector of a staged entry set or removed (R96). -/
def sectorEntry (n : Fin 4) (entries : FenceSet) (form aStart aEnd : Nat) (i : Fin 8) (s : State) : Done :=
  match sectoredFence entries[i] form aStart aEnd with
  | some e => answered e.answer (stage (.fenceSet n (entries.set i (some e.value))) s)
  | none => refusal .refusedRange s

/-- FENCE_SECTOR (R96). -/
def execFenceSector (m : Master) (index form aStart aEnd : Nat) (s : State) : Result :=
  .next (command m 9 (editing m (mayEdit m .fences)
    (onStagedSet fun n entries => withIndex index 8 (sectorEntry n entries form aStart aEnd))) s)

/-- FENCE_CLEAR (R96). -/
def execFenceClear (m : Master) (index : Nat) (s : State) : Result :=
  .next (command m 10 (editing m (mayEdit m .fences)
    (onStagedSet fun n entries => withIndex index 8 fun i s =>
      accepted (stage (.fenceSet n (entries.set i none)) s))) s)

/-! ### Item and calibration edits -/

/-- A field of the staged item written (R97). -/
def itemField (field : Nat) (v : Int) (s : State) : Done :=
  match s.rts.token.staging with
  | some (.item k content lw nw) =>
    match writtenItem { defn := content.getD freshItemDef, lastDoneWritten := lw, nextDueWritten := nw } field v with
    | some e =>
      answered e.answer (stage (.item k (some e.value.defn) e.value.lastDoneWritten e.value.nextDueWritten) s)
    | none => refusal .refusedRange s
  | _ => refusal .refusedState s

/-- ITEM_WRITE (R97). -/
def execItemWrite (m : Master) (field : Nat) (v : Int) (s : State) : Result :=
  .next (command m 11 (editing m (mayEdit m .items) (itemField field v)) s)

/-- The staged item made EMPTY (R97). The written-marks of last_done and next_due are kept (DESIGN CHOICE, log 17). -/
def itemClear (s : State) : Done :=
  match s.rts.token.staging with
  | some (.item k _ lw nw) => accepted (stage (.item k none lw nw) s)
  | _ => refusal .refusedState s

/-- ITEM_WRITE with the field CLEAR (R97). -/
def execItemWriteClear (m : Master) (s : State) : Result :=
  .next (command m 11 (editing m (mayEdit m .items) itemClear) s)

/-- A field of the staged calibration block written (R97). -/
def calibrationField (field : Nat) (v : Int) (s : State) : Done :=
  match s.rts.token.staging with
  | some (.calibration c) =>
    match writtenCalibration c field v with
    | some e => answered e.answer (stage (.calibration e.value) s)
    | none => refusal .refusedRange s
  | _ => refusal .refusedState s

/-- CAL_WRITE (R97). -/
def execCalWrite (m : Master) (field : Nat) (v : Int) (s : State) : Result :=
  .next (command m 12 (editing m (mayEdit m .calibration) (calibrationField field v)) s)

/-! ### Commit -/

/-- The lock forbids a commit of this subject by this master (R99 case 2). -/
def lockedOut (m : Master) (x : Staged) (s : State) : Bool :=
  stagedRegion x == .fences && m != .st && s.evu.fences.lock

/-- The mode forbids a commit of this subject (R99 case 3). -/
def modeForbids (x : Staged) (s : State) : Bool :=
  stagedRegion x == .calibration && s.mdc.mode != .parked && s.mdc.mode != .halt

/-- A commit accepted for writing: in progress, its region asked for, no reply yet (R99 case 4). -/
def startCommit (m : Master) (x : Staged) (s : State) : Done :=
  { state := askSave (stagedRegion x) { s with rts.token.commit := some { subject := x, who := m } }
    answer := none, content := [] }

/-- COMMIT on a staged subject, by the first case that holds (R99). -/
def commitStaged (m : Master) (crc : Nat) (s : State) : Done :=
  match s.rts.token.staging with
  | some x =>
    if stagedCrc x ≠ crc then answered { result := .crcMismatch, detail := some (stagedCrc x) } s
    else if lockedOut m x s then refusal .refusedLock s
    else if modeForbids x s then refusal .refusedState s
    else startCommit m x s
  | none => refusal .refusedState s

/-- COMMIT (R99). -/
def execCommit (m : Master) (crc : Nat) (s : State) : Result :=
  .next (command m 13 (editing m true (commitStaged m crc)) s)

end Sys2Proof.Machine
end

