-- ==== Sys2Proof/Machine/Dispatch.lean ====
section
/-! DEFINITION. The dispatch: one arm per command, each one direct call of its meaning. -/

namespace Sys2Proof.Machine

/-- A command's effect on everything but the queue. -/
def exec (i : Instr) (s : State) : Host.Outcome State Fault Refusal :=
  match i with
  | .mainSupplyApplied => Sys2Proof.Machine.execMainSupplyApplied s
  | .supplyLow => Sys2Proof.Machine.execSupplyLow s
  | .supplyRecovered => Sys2Proof.Machine.execSupplyRecovered s
  | .resetLineAsserted => Sys2Proof.Machine.execResetLineAsserted s
  | .resetLineReleased => Sys2Proof.Machine.execResetLineReleased s
  | .keyLevelChange level => Sys2Proof.Machine.execKeyLevelChange level s
  | .keyOffTaken => Sys2Proof.Machine.execKeyOffTaken s
  | .keyOnTaken => Sys2Proof.Machine.execKeyOnTaken s
  | .loadingComplete => Sys2Proof.Machine.execLoadingComplete s
  | .stSilenceTimeout => Sys2Proof.Machine.execStSilenceTimeout s
  | .enterSleep => Sys2Proof.Machine.execEnterSleep s
  | .partResetTakesEffect => Sys2Proof.Machine.execPartResetTakesEffect s
  | .sensorSample ch v1 v2 counter faultFlag => Sys2Proof.Machine.execSensorSample ch v1 v2 counter faultFlag s
  | .stalenessMark ch => Sys2Proof.Machine.execStalenessMark ch s
  | .failureMark ch => Sys2Proof.Machine.execFailureMark ch s
  | .poseTimer => Sys2Proof.Machine.execPoseTimer s
  | .poseReportTimer => Sys2Proof.Machine.execPoseReportTimer s
  | .pvcState demand lockout oil applied group1 group2 => Sys2Proof.Machine.execPvcState demand lockout oil applied group1 group2 s
  | .pvcLevers demands => Sys2Proof.Machine.execPvcLevers demands s
  | .leverStalenessMark => Sys2Proof.Machine.execLeverStalenessMark s
  | .engineStatus e code speed coolant fuelRate load noStop => Sys2Proof.Machine.execEngineStatus e code speed coolant fuelRate load noStop s
  | .frameDiscarded link kind node len => Sys2Proof.Machine.execFrameDiscarded link kind node len s
  | .grantRefresh => Sys2Proof.Machine.execGrantRefresh s
  | .grantUnconfirmed => Sys2Proof.Machine.execGrantUnconfirmed s
  | .responseFailTimeout f => Sys2Proof.Machine.execResponseFailTimeout f s
  | .engineSilence e => Sys2Proof.Machine.execEngineSilence e s
  | .engineRequestRefresh e => Sys2Proof.Machine.execEngineRequestRefresh e s
  | .startTimeout e => Sys2Proof.Machine.execStartTimeout e s
  | .joinRefused e => Sys2Proof.Machine.execJoinRefused e s
  | .leaveRefused e => Sys2Proof.Machine.execLeaveRefused e s
  | .cooldownEnd e => Sys2Proof.Machine.execCooldownEnd e s
  | .stopTimeout e => Sys2Proof.Machine.execStopTimeout e s
  | .retryWaitEnd e => Sys2Proof.Machine.execRetryWaitEnd e s
  | .joinHoldReached => Sys2Proof.Machine.execJoinHoldReached s
  | .leaveHoldReached => Sys2Proof.Machine.execLeaveHoldReached s
  | .autoIdleTimeout => Sys2Proof.Machine.execAutoIdleTimeout s
  | .lockoutTimeout => Sys2Proof.Machine.execLockoutTimeout s
  | .shutdownDelayEnd => Sys2Proof.Machine.execShutdownDelayEnd s
  | .countdownStep => Sys2Proof.Machine.execCountdownStep s
  | .countdownEnd => Sys2Proof.Machine.execCountdownEnd s
  | .fuelTimer => Sys2Proof.Machine.execFuelTimer s
  | .feedTimer => Sys2Proof.Machine.execFeedTimer s
  | .saveTimer => Sys2Proof.Machine.execSaveTimer s
  | .reminderTimer => Sys2Proof.Machine.execReminderTimer s
  | .clockSecond => Sys2Proof.Machine.execClockSecond s
  | .pvcSilent => Sys2Proof.Machine.execPvcSilent s
  | .tokenSilence => Sys2Proof.Machine.execTokenSilence s
  | .frameTransmit link => Sys2Proof.Machine.execFrameTransmit link s
  | .regionWriteComplete => Sys2Proof.Machine.execRegionWriteComplete s
  | .regionWriteFail => Sys2Proof.Machine.execRegionWriteFail s
  | .commandCrcError => Sys2Proof.Machine.execCommandCrcError s
  | .unknownCommand m code => Sys2Proof.Machine.execUnknownCommand m code s
  | .readStatus m => Sys2Proof.Machine.execReadStatus m s
  | .readPose m => Sys2Proof.Machine.execReadPose m s
  | .readChannels m => Sys2Proof.Machine.execReadChannels m s
  | .readFenceSet m n => Sys2Proof.Machine.execReadFenceSet m n s
  | .readItem m k => Sys2Proof.Machine.execReadItem m k s
  | .readMeters m => Sys2Proof.Machine.execReadMeters m s
  | .readOpenTruck m => Sys2Proof.Machine.execReadOpenTruck m s
  | .readCompletedTrucks m => Sys2Proof.Machine.execReadCompletedTrucks m s
  | .readSettings m => Sys2Proof.Machine.execReadSettings m s
  | .readCalibration m => Sys2Proof.Machine.execReadCalibration m s
  | .tokenRequest m policy => Sys2Proof.Machine.execTokenRequest m policy s
  | .tokenRelease m => Sys2Proof.Machine.execTokenRelease m s
  | .abandon m => Sys2Proof.Machine.execAbandon m s
  | .stageSet m n => Sys2Proof.Machine.execStageSet m n s
  | .stageItem m k => Sys2Proof.Machine.execStageItem m k s
  | .stageCal m => Sys2Proof.Machine.execStageCal m s
  | .fenceWriteFirst m index kind enabled margin creep => Sys2Proof.Machine.execFenceWriteFirst m index kind enabled margin creep s
  | .fenceWriteSecond m index word1 word2 => Sys2Proof.Machine.execFenceWriteSecond m index word1 word2 s
  | .fenceSector m index form aStart aEnd => Sys2Proof.Machine.execFenceSector m index form aStart aEnd s
  | .fenceClear m index => Sys2Proof.Machine.execFenceClear m index s
  | .itemWrite m field value => Sys2Proof.Machine.execItemWrite m field value s
  | .itemWriteClear m => Sys2Proof.Machine.execItemWriteClear m s
  | .calWrite m field value => Sys2Proof.Machine.execCalWrite m field value s
  | .commit m crc => Sys2Proof.Machine.execCommit m crc s
  | .selectSet m n => Sys2Proof.Machine.execSelectSet m n s
  | .selectSetNone m => Sys2Proof.Machine.execSelectSetNone m s
  | .lockFences m => Sys2Proof.Machine.execLockFences m s
  | .unlockFences m => Sys2Proof.Machine.execUnlockFences m s
  | .enterService m => Sys2Proof.Machine.execEnterService m s
  | .exitService m => Sys2Proof.Machine.execExitService m s
  | .partReset m => Sys2Proof.Machine.execPartReset m s
  | .engineReset m => Sys2Proof.Machine.execEngineReset m s
  | .clearViolations m => Sys2Proof.Machine.execClearViolations m s
  | .clearFaults m => Sys2Proof.Machine.execClearFaults m s
  | .setGrade m zRef slope xRef => Sys2Proof.Machine.execSetGrade m zRef slope xRef s
  | .setGradeStop m stop margin => Sys2Proof.Machine.execSetGradeStop m stop margin s
  | .clearGrade m => Sys2Proof.Machine.execClearGrade m s
  | .truckDone m => Sys2Proof.Machine.execTruckDone m s
  | .idleHold m => Sys2Proof.Machine.execIdleHold m s
  | .ackItem m k => Sys2Proof.Machine.execAckItem m k s
  | .serviceDone m k => Sys2Proof.Machine.execServiceDone m k s
  | .extendItem m k => Sys2Proof.Machine.execExtendItem m k s
  | .meterWrite m code value => Sys2Proof.Machine.execMeterWrite m code value s
  | .setClock m seconds => Sys2Proof.Machine.execSetClock m seconds s
  | .selectMode m code => Sys2Proof.Machine.execSelectMode m code s
  | .setIdle m autoIdle shutdown => Sys2Proof.Machine.execSetIdle m autoIdle shutdown s
  | .setTruckTarget m kg => Sys2Proof.Machine.execSetTruckTarget m kg s
  | .backupSupplyFailed => Sys2Proof.Machine.execBackupSupplyFailed s
  | .noticeSpacingElapsed => Sys2Proof.Machine.execNoticeSpacingElapsed s

end Sys2Proof.Machine
end

