-- ==== Sys2Proof/Machine/Frames.lean ====
section
/-! DEFINITION. The bytes of the frames the part sends (R182). -/

namespace Sys2Proof.Machine

/-- Time of day in units of 2 s; 0xFFFF when absent (R182). -/
def timeOfDay : Option Nat → Nat
  | some t => t % 86400 / 2
  | none => 0xFFFF

/-- Both validity parts, the plane part in bits 1 and 0 (R182). -/
def partBits (plane slew : Part) : Nat := partCode plane + 4 * partCode slew

/-- Byte 7 of a POSE_REPORT (R182). -/
def poseFlags (p : Pose) : Nat :=
  partBits p.plane p.slew + 16 * bit p.overrange + 32 * bit p.coords.isSome

/-- A coordinate of a POSE_REPORT as two bytes; while the coordinates are absent bit 5 of byte 7 shows it. -/
def coordBytes (n : Nat) : Option Int → List Byte
  | some v => toBytes 2 (unsigned 2 v)
  | none => toBytes 2 (Config.absentCoordinate n)

/-- The seven-bit caps packed into 56 bits, BOOM_UP at the top (R182). -/
def packCaps (caps : PerFn Nat) : Nat := (perFnList caps).foldl (fun acc c => acc * 128 + c % 128) 0

/-- The detail of a reply as it is sent: a value above 65,535 as 65,535, a negative one in two's complement
(R182, R183). -/
def detailField (d : Int) : Nat := unsigned 2 (min d 65535)

/-- The code of an engine request (R182). -/
def askCode : EngineAsk → Nat
  | .none => 0
  | .start => 1
  | .stop => 2

/-- The data bytes of a frame (R182). -/
def TxFrame.bytes : TxFrame → List Byte
  | .grantCaps seq caps => toBytes 1 seq ++ toBytes 7 (packCaps caps)
  | .grantPower g => toBytes 1 g.seq ++ toBytes 2 g.limit ++ toBytes 1 (bit g.group1 + 2 * bit g.group2) ++
      toBytes 1 (powerRank g.power) ++ toBytes 1 (modeCode g.mode) ++ toBytes 1 (partBits g.plane g.slew) ++ [0]
  | .engineRequest e r => toBytes 1 (engineNumber e) ++ toBytes 1 (askCode r.ask) ++ toBytes 2 r.speed
  | .poseReport0 p => toBytes 1 (p.seq % 128) ++ coordBytes 0 (p.coords.map (·.x3)) ++
      coordBytes 1 (p.coords.map (·.z3)) ++ coordBytes 2 (p.coords.map (·.h)) ++ toBytes 1 (poseFlags p)
  | .poseReport1 p => toBytes 1 (128 + p.seq % 128) ++
      toBytes 2 (match p.deviation with | some d => unsigned 2 d | none => 0x8000) ++
      toBytes 2 (match p.sigma with | some a => unsigned 2 a | none => 0xFFFF) ++ [0, 0] ++ toBytes 1 (poseFlags p)
  | .notice n => toBytes 1 (4 * noticeCode n.kind + severityCode n.severity) ++ toBytes 2 n.subject ++
      toBytes 3 (min 16777215 (n.value.getD (Config.unstatedNoticeValue (noticeCode n.kind) n.subject))) ++
      toBytes 2 (timeOfDay n.stamp)
  | .reply code result detail dest => toBytes 1 code ++ toBytes 1 (resultCode result) ++
      toBytes 2 (detailField (detail.getD (Config.unstatedDetail code (resultCode result)))) ++
      toBytes 1 dest.node
  | .record dest index count content => toBytes 1 dest.node ++ toBytes 1 index ++ toBytes 1 count ++
      content ++ (List.range (5 - content.length)).map Config.recordPad

/-- The kind of a frame (R182). -/
def TxFrame.kind : TxFrame → Nat
  | .grantCaps _ _ => 2
  | .grantPower _ => 3
  | .engineRequest _ _ => 6
  | .poseReport0 _ | .poseReport1 _ => 20
  | .notice _ => 24
  | .reply _ _ _ _ => 41
  | .record _ _ _ _ => 42

/-- The identifier of a frame the part sends: its kind times 16 plus its own node 1 (R179). -/
def TxFrame.identifier (f : TxFrame) : Nat := f.kind * 16 + 1

end Sys2Proof.Machine
end

