-- ==== Sys2Proof/Safety.lean ====
section
/-! DEFINITION. The words of the statements: what it means that a command completes, what the end of every event may
still move, who sends a command and which roles the rules give it, when a mark is reached, what a pose does in the
Envelope Unit and the Payload Unit, and the invariants of the cap table, the notice queue, the store and the grant
record. -/

namespace Sys2Proof.Machine

/-! ### Completion and frames -/

/-- The command completes: `exec` answers a next state, and `P` holds of it. -/
def Completes (i : Instr) (s : State) (P : State → Prop) : Prop := ∃ t, exec i s = .next t ∧ P t

/-- The command completes as an event of an awake part: `P` holds of a state, and the next state is that one after
every free link controller has taken its first waiting frame (R181). -/
def EventGives (i : Instr) (s : State) (P : State → Prop) : Prop := ∃ u, exec i s = .next (linkSettle u) ∧ P u

/-- The state `s` with everything that the end of any event may still move taken from `t`: the engine slots, the hold
timers, the ladder with its timers, the effective mode and the limit (chapters 7 and 8), the grant record with its
list (R118, R119), the write in flight (R194), the two waits for replies (R11, R14), the fault latch (R190), and the
buffers and queues of the links (R181, R188). A frame statement says that a command's next state is this state with
the fields it names replaced. -/
def eventEnd (s t : State) : State :=
  { s with
    mdc := { s.mdc with sleepWait := t.mdc.sleepWait, resetWait := t.mdc.resetWait }
    evu := { s.evu with grant := t.evu.grant, refresh := t.evu.refresh, outstanding := t.evu.outstanding }
    eeu := { s.eeu with
      slot1 := t.eeu.slot1, slot2 := t.eeu.slot2, joinHold := t.eeu.joinHold, leaveHold := t.eeu.leaveHold,
      ladder := t.eeu.ladder, autoIdle := t.eeu.autoIdle, lockoutTimer := t.eeu.lockoutTimer,
      shutdownDelay := t.eeu.shutdownDelay, countdown := t.eeu.countdown, effective := t.eeu.effective,
      limit := t.eeu.limit }
    svu := { s.svu with entrySaveBegun := t.svu.entrySaveBegun }
    rts := { s.rts with inFlight := t.rts.inFlight, pendingSave := t.rts.pendingSave }
    lnc := { t.lnc with
      rateA := s.lnc.rateA, rateB := s.lnc.rateB, rateS := s.lnc.rateS, half := s.lnc.half,
      pvcTimer := s.lnc.pvcTimer, pvcSilent := s.lnc.pvcSilent, poseReport := s.lnc.poseReport,
      commandCrc := s.lnc.commandCrc, commandDropped := s.lnc.commandDropped } }

/-- A save of a region has been asked for: it stands in the pending-save set, or its write has begun in this very
event (R194). -/
def SaveAsked (r : Region) (s : State) : Prop :=
  r ∈ s.rts.pendingSave ∨ ∃ w, s.rts.inFlight = some w ∧ regionOf w.content = r ∧ w.since = s.now

/-- A notice with this content waits in the queue. -/
def NoticeWaits (k : NoticeKind) (subject : Nat) (v : Severity) (x : Option Nat) (s : State) : Prop :=
  ∃ e ∈ s.lnc.notices, e.kind = k ∧ e.subject = subject ∧ e.severity = v ∧ e.value = x

/-- The notice queue has room for all that one event can raise in it beside the notices of 32 items. -/
def NoticeRoom (s : State) : Prop := s.lnc.notices.length ≤ 8

/-- The replies after one more has been placed at the end of the queue (R183). -/
def repliesWith (s : State) (code : Nat) (r : ReplyResult) (detail : Option Int) (m : Master) (content : List Byte) :
    List Reply :=
  s.lnc.replies ++ [{ code, result := r, detail, dest := m, content, sent := 0 }]

/-! ### Commands of the cab-link masters -/

/-- The sender and the code of a COMMAND frame whose CRC is right (R182). -/
def commandOf : Instr → Option (Master × Nat)
  | .unknownCommand m code => some (m, code)
  | .readStatus m | .readPose m | .readChannels m | .readFenceSet m _ | .readItem m _ | .readMeters m
  | .readOpenTruck m | .readCompletedTrucks m | .readSettings m | .readCalibration m => some (m, 1)
  | .tokenRequest m _ => some (m, 2)
  | .tokenRelease m => some (m, 3)
  | .stageSet m _ => some (m, 4)
  | .stageItem m _ => some (m, 5)
  | .stageCal m => some (m, 6)
  | .fenceWriteFirst m _ _ _ _ _ => some (m, 7)
  | .fenceWriteSecond m _ _ _ => some (m, 8)
  | .fenceSector m _ _ _ _ => some (m, 9)
  | .fenceClear m _ => some (m, 10)
  | .itemWrite m _ _ | .itemWriteClear m => some (m, 11)
  | .calWrite m _ _ => some (m, 12)
  | .commit m _ => some (m, 13)
  | .abandon m => some (m, 14)
  | .selectSet m _ | .selectSetNone m => some (m, 15)
  | .lockFences m => some (m, 16)
  | .unlockFences m => some (m, 17)
  | .enterService m => some (m, 18)
  | .exitService m => some (m, 19)
  | .partReset m => some (m, 20)
  | .engineReset m => some (m, 21)
  | .clearViolations m => some (m, 22)
  | .clearFaults m => some (m, 23)
  | .setGrade m _ _ _ => some (m, 24)
  | .setGradeStop m _ _ => some (m, 25)
  | .clearGrade m => some (m, 26)
  | .truckDone m => some (m, 27)
  | .ackItem m _ => some (m, 28)
  | .serviceDone m _ => some (m, 29)
  | .extendItem m _ => some (m, 30)
  | .meterWrite m _ _ => some (m, 31)
  | .setClock m _ => some (m, 32)
  | .selectMode m _ => some (m, 33)
  | .setIdle m _ _ => some (m, 34)
  | .setTruckTarget m _ => some (m, 35)
  | .idleHold m => some (m, 36)
  | .mainSupplyApplied | .supplyLow | .supplyRecovered | .resetLineAsserted | .resetLineReleased
  | .keyLevelChange _ | .keyOffTaken | .keyOnTaken | .loadingComplete | .stSilenceTimeout | .enterSleep
  | .partResetTakesEffect | .sensorSample _ _ _ _ _ | .stalenessMark _ | .failureMark _ | .poseTimer
  | .poseReportTimer | .pvcState _ _ _ _ _ _ | .pvcLevers _ | .leverStalenessMark
  | .engineStatus _ _ _ _ _ _ _ | .frameDiscarded _ _ _ _ | .grantRefresh | .grantUnconfirmed
  | .responseFailTimeout _ | .engineSilence _ | .engineRequestRefresh _ | .startTimeout _ | .joinRefused _
  | .leaveRefused _ | .cooldownEnd _ | .stopTimeout _ | .retryWaitEnd _ | .joinHoldReached | .leaveHoldReached
  | .autoIdleTimeout | .lockoutTimeout | .shutdownDelayEnd | .countdownStep | .countdownEnd | .fuelTimer
  | .feedTimer | .saveTimer | .reminderTimer | .clockSecond | .pvcSilent | .tokenSilence | .frameTransmit _
  | .regionWriteComplete | .regionWriteFail | .commandCrcError | .backupSupplyFailed
  | .noticeSpacingElapsed => none

/-- The part takes commands by their own rules: it is awake, past START, and fewer than 8 replies wait (R4, R183). -/
def CommandsTaken (s : State) : Prop := awake s = true ∧ s.mdc.mode ≠ .start ∧ s.lnc.replies.length < 8

/-- The state after a command has been heard (R8, R92) and, when the holder sent anything but a FENCE_WRITE, its
half-write dropped (R184). -/
def heardCommand (m : Master) (code : Nat) (s : State) : State := dropHalf m code (heardOnB m.node s)

/-- The sender is outside the roles that the command's rule gives it (R7, R8, R14 to R16, R53, R54, R75, R84, R94,
R153, R166, R173 to R175, R185, R186, R196). -/
def senderRefused (s : State) : Instr → Bool
  | .stageItem m _ | .itemWrite m _ _ | .itemWriteClear m | .setClock m _ => m == .cdt
  | .readCalibration m | .stageCal m | .calWrite m _ _ | .lockFences m | .unlockFences m | .enterService m
  | .exitService m | .partReset m | .engineReset m | .clearViolations m | .extendItem m _ | .meterWrite m _ _ =>
    m != .st
  | .clearFaults m => m == .tg
  | .setGrade m _ _ _ | .setGradeStop m _ _ | .clearGrade m | .truckDone m | .idleHold m | .ackItem m _
  | .selectMode m _ | .setIdle m _ _ | .setTruckTarget m _ => m != .cdt
  | .serviceDone m _ => m == .cdt && calField s.rts.cal 50 != 1
  | _ => false

/-- The commands of the edit session, which R94 checks in one order. -/
def editCommand : Instr → Bool
  | .stageSet _ _ | .stageItem _ _ | .stageCal _ | .abandon _ | .commit _ _ | .fenceWriteFirst _ _ _ _ _ _
  | .fenceWriteSecond _ _ _ _ | .fenceSector _ _ _ _ _ | .fenceClear _ _ | .itemWrite _ _ _ | .itemWriteClear _
  | .calWrite _ _ _ => true
  | _ => false

/-- The subject that step 5 of R94 asks to be staged is staged. -/
def subjectStaged (s : State) : Instr → Bool
  | .fenceWriteFirst _ _ _ _ _ _ | .fenceWriteSecond _ _ _ _ | .fenceSector _ _ _ _ _ | .fenceClear _ _ =>
    match s.rts.token.staging with
    | some (.fenceSet _ _) => true
    | _ => false
  | .itemWrite _ _ _ | .itemWriteClear _ =>
    match s.rts.token.staging with
    | some (.item _ _ _ _) => true
    | _ => false
  | .calWrite _ _ _ =>
    match s.rts.token.staging with
    | some (.calibration _) => true
    | _ => false
  | .commit _ _ => s.rts.token.staging.isSome
  | _ => true

/-- The master holds the token and no commit is in progress: steps 3 and 4 of R94 pass. -/
def MayEdit (m : Master) (s : State) : Prop := holds m s = true ∧ s.rts.token.commit = none

/-- The record content that a READ returns (R185): none for an index, or a record kind, that does not exist. -/
def readContent (s : State) : Instr → Option (List Byte)
  | .readStatus _ => some (statusRecord s)
  | .readPose _ => some (poseRecord s.gmu.pose)
  | .readChannels _ => some (channelsRecord s)
  | .readFenceSet _ n => if h : n < 4 then some (fenceSetRecord s.evu.fences ⟨n, h⟩) else none
  | .readItem _ k => if h : k < 32 then some (itemRecord s.svu.items[k]) else none
  | .readMeters _ => some (metersRecord s)
  | .readOpenTruck _ => some (openTruckRecord s)
  | .readCompletedTrucks _ => some (completedRecord s)
  | .readSettings _ => some (settingsRecord s.eeu.settings)
  | .readCalibration _ => some (canonicalCalibration s.rts.cal)
  | _ => none

/-- The result and the detail of a command whose arguments may be clamped (R53, R54, R95 to R97, R186), over the
arguments, each with the value used, in the order of the rule: ACCEPTED, or ACCEPTED_CLAMPED with the first clamped
value as used. -/
def clampedReply : List (Int × Int) → ReplyResult × Option Int
  | [] => (.accepted, none)
  | (given, used) :: rest => if given = used then clampedReply rest else (.acceptedClamped, some used)

/-- The token record after a release, a preemption by the first waiter or a loss by silence (R89, R91, R92): staging
empty, the first waiter the holder with its silence timer at 0, or nobody. -/
def passedToken (s : State) : Token :=
  { holder := s.rts.token.waiting.head?, silence := s.rts.token.waiting.head?.map fun _ => s.now
    silenceDue := false, waiting := s.rts.token.waiting.tail, staging := none, commit := none }

/-! ### Marks and sleep -/

/-- For a command that is a mark of the part's own timers, whether the mark is reached. -/
def markReached (s : State) : Instr → Option Bool
  | .keyOffTaken => some (keyDue .off s)
  | .keyOnTaken => some (keyDue .on s)
  | .stSilenceTimeout => some (stSilenceDue s)
  | .enterSleep => some (sleepDue s)
  | .partResetTakesEffect => some (partResetDue s)
  | .stalenessMark ch => some (stalenessDue (channelGet s.siu ch) s.now)
  | .failureMark ch => some (failureDue (channelGet s.siu ch) s.now)
  | .poseTimer => some (reached s.gmu.poseTimer 20 s.now)
  | .poseReportTimer => some (reached s.lnc.poseReport 100 s.now)
  | .leverStalenessMark => some (leversStaleDue s)
  | .grantRefresh => some (reached s.evu.refresh 100 s.now)
  | .grantUnconfirmed => some (unconfirmedDue s)
  | .responseFailTimeout f => some (responseFailDue s f)
  | .engineSilence e => some (silenceDue s e)
  | .engineRequestRefresh e => some (reached (slotGet s e).requestTimer 200 s.now)
  | .startTimeout e => some (slotDue s e .starting 20000)
  | .joinRefused e => some (slotDue s e .joining 750)
  | .leaveRefused e => some (slotDue s e .leaving 750)
  | .cooldownEnd e => some (slotDue s e .cooldown 180000)
  | .stopTimeout e => some (slotDue s e .stopping 30000)
  | .retryWaitEnd e => some (reached (slotGet s e).retry 30000 s.now)
  | .joinHoldReached => some (holdDue s.eeu.joinHold 10000 s.now)
  | .leaveHoldReached => some (holdDue s.eeu.leaveHold 60000 s.now)
  | .autoIdleTimeout => some (autoIdleDue s)
  | .lockoutTimeout => some (lockoutDue s)
  | .shutdownDelayEnd => some (shutdownDelayDue s)
  | .countdownStep => some (countdownStepDue s)
  | .countdownEnd => some (countdownEndDue s)
  | .fuelTimer => some (reached s.eeu.fuelTimer 100 s.now)
  | .feedTimer => some (reached s.eeu.feedTimer 1000 s.now)
  | .saveTimer => some (saveDue s)
  | .reminderTimer => some (reminderDue s)
  | .clockSecond => some (secondDue s)
  | .pvcSilent => some (pvcSilentDue s)
  | .tokenSilence => some (tokenSilent s)
  | .noticeSpacingElapsed => some (spacingDue s)
  | _ => none

/-- The events that act on a part held in reset or asleep: supplies, reset line, key, clock (R12, R13, R196). -/
def actsAsleep : Instr → Bool
  | .mainSupplyApplied | .supplyLow | .supplyRecovered | .resetLineAsserted | .resetLineReleased
  | .keyLevelChange _ | .keyOffTaken | .keyOnTaken | .clockSecond | .backupSupplyFailed => true
  | _ => false

/-- A reset with this cause gives `t` from `s`: every volatile record at its reset value, grant 0 and the engine
requests handed over, MODE_CHANGE START the only notice and already with link B's free controller, the links at
their stored rates (R1, R2, R13, R14, R18, R57, R58, R87, R103, R117, R127, R145, R180, R188, R190). -/
def FreshlyReset (cause : ResetCause) (s t : State) : Prop :=
  t.mdc = { mode := .start, cause := if s.clock.time = none then .backupLost else cause,
            keyState := s.power.keyLevel, lockout := .engaged, calStatus := .invalid, stSilence := none,
            resetPending := false, sleepWait := none, resetWait := none } ∧
  t.siu = .reset ∧ t.gmu = .reset (some s.now) ∧ t.plu = .reset ∧ t.evu = .reset (some s.now) ∧
  t.eeu = .reset (some s.now) ∧ t.svu = .reset ∧ t.rts = .reset ∧
  t.lnc = { Lnc.reset (some s.now) t.lnc.rateA t.lnc.rateB t.lnc.rateS with
    ctlA := some (.grantCaps 0 ⟨0, 0, 0, 0, 0, 0, 0, 0⟩), txGrant := [.grantPower .reset],
    txReq1 := some (.engineRequest .e1 { ask := .none, speed := 0 }),
    txReq2 := some (.engineRequest .e2 { ask := .none, speed := 0 }),
    ctlB := some (.notice { kind := .modeChange, subject := 0, severity := .info, value := some 0,
                            stamp := s.clock.time }),
    lastNotice := some s.now } ∧
  t.lnc.rateA = storedRate t.store 47 ∧ t.lnc.rateB = storedRate t.store 48 ∧
  t.lnc.rateS = storedRate t.store 49 ∧ (s.rts.inFlight = none → t.store = s.store) ∧
  t.pending = s.pending ∧ t.now = s.now ∧ t.clock = s.clock ∧
  t.power = { mainGood := true, resetLine := false, keyLevel := s.power.keyLevel, keyTimer := none }

/-- The part held without supply or in reset, or asleep: every volatile record lost, no timer running, nothing in a
buffer or queue (R12, R13). -/
def VolatileLost (t : State) : Prop :=
  t.siu = .reset ∧ t.gmu = .reset none ∧ t.plu = .reset ∧ t.evu = .reset none ∧ t.eeu = .reset none ∧
  t.svu = .reset ∧ t.rts = .reset ∧ t.lnc = .reset none t.lnc.rateA t.lnc.rateB t.lnc.rateS

/-! ### The store -/

/-- One bank of a region is the same in two stores. -/
def sameBank (x y : Store) (r : Region) (b : BankId) : Prop :=
  match r with
  | .calibration => bankGet x.calibration b = bankGet y.calibration b
  | .settings => bankGet x.settings b = bankGet y.settings b
  | .fences => bankGet x.fences b = bankGet y.fences b
  | .items => bankGet x.items b = bankGet y.items b
  | .meters => bankGet x.meters b = bankGet y.meters b
  | .trucks => bankGet x.trucks b = bankGet y.trucks b

/-- What the check of one bank of a region finds. -/
def bankCheck (x : Store) (r : Region) (b : BankId) : BankCheck :=
  match r with
  | .calibration => checkBank .calibration (bankGet x.calibration b)
  | .settings => checkBank .settings (bankGet x.settings b)
  | .fences => checkBank .fences (bankGet x.fences b)
  | .items => checkBank .items (bankGet x.items b)
  | .meters => checkBank .meters (bankGet x.meters b)
  | .trucks => checkBank .trucks (bankGet x.trucks b)

/-- The count of one bank of a region. -/
def bankCount (x : Store) (r : Region) (b : BankId) : Nat :=
  match r with
  | .calibration => (bankGet x.calibration b).count
  | .settings => (bankGet x.settings b).count
  | .fences => (bankGet x.fences b).count
  | .items => (bankGet x.items b).count
  | .meters => (bankGet x.meters b).count
  | .trucks => (bankGet x.trucks b).count

/-- The content of one bank of a region. -/
def bankContent (x : Store) (r : Region) (b : BankId) : RegionContent :=
  match r with
  | .calibration => .calibration (bankGet x.calibration b).content
  | .settings => .settings (bankGet x.settings b).content
  | .fences => .fences (bankGet x.fences b).content
  | .items => .items (bankGet x.items b).content
  | .meters => .meters (bankGet x.meters b).content
  | .trucks => .trucks (bankGet x.trucks b).content

/-- The bank that supplied a region at the last loading, or that its last completed write wrote. -/
def bankSource (x : Store) (r : Region) : Option BankId :=
  match r with
  | .calibration => x.calibration.source
  | .settings => x.settings.source
  | .fences => x.fences.source
  | .items => x.items.source
  | .meters => x.meters.source
  | .trucks => x.trucks.source

/-- Two stores differ at most in one bank of one region (and in that region's source). -/
def SameButBank (x y : Store) (r : Region) (b : BankId) : Prop :=
  ∀ r' b', (r', b') ≠ (r, b) → sameBank x y r' b' ∧ (r' ≠ r → bankSource x r' = bankSource y r')

/-- A region write as it begins in the state `u` (R100, R191, R192, R194): in the other bank than the region's source under
the next write count, or without a source in bank 0 under count 0; of the live records as they stand, the subject of a
commit of this region in place of its origin; carrying the commit exactly then. -/
def WriteFormed (u : State) (v : RegionWrite) : Prop :=
  let r := regionOf v.content
  let subject := u.rts.token.commit.map (·.subject)
  v.since = u.now ∧
  (match bankSource u.store r with
    | some .bank0 => v.bank = .bank1 ∧ v.count = (bankCount u.store r .bank0 + 1) % 65536
    | some .bank1 => v.bank = .bank0 ∧ v.count = (bankCount u.store r .bank1 + 1) % 65536
    | none => v.bank = .bank0 ∧ v.count = 0) ∧
  v.carriesCommit = subject.any (fun x => decide (stagedRegion x = r)) ∧
  match v.content with
  | .calibration x => x = (match subject with
    | some (.calibration c) => c
    | _ => u.rts.cal)
  | .settings x => x = u.eeu.settings
  | .fences x => x = (match subject with
    | some (.fenceSet n e) => { u.evu.fences with sets := u.evu.fences.sets.set n e }
    | _ => u.evu.fences)
  | .items x => x = (match subject with
    | some (.item k content lw nw) => u.svu.items.set k (match content, itemAt u k with
      | none, _ => none
      | some d, some i => some { i with
          defn := { d with lastDone := if lw then d.lastDone else i.defn.lastDone
                           nextDue := if nw then d.nextDue else i.defn.nextDue } }
      | some d, none =>
        let m := meterGet u.svu.meters d.meter
        let last := if lw then d.lastDone else m
        let y := { d with lastDone := last, nextDue := if nw then d.nextDue else last + d.interval }
        some { defn := y, state := itemStateAt y m, acked := false, extUsed := false, doneDate := none })
    | _ => u.svu.items)
  | .meters x => x = {
      meters := u.svu.meters, fuelRem := u.svu.fuelRem, payloadRem := u.svu.payloadRem, slewRem := u.svu.slewRem
      dayMark := u.svu.dayMark, violations := perFnOf fun f => (perFnGet u.evu.monitors f).violations }
  | .trucks x => x = u.plu.completed

/-! ### Meters (R163) -/

/-- A meter after an increment handed to the SVU (R163): carried through its remainder, saturating; a meter already at
the top, and one not yet loaded (R164), stands. -/
def meterAfter (s : State) (m : Meter) (n : Nat) : Nat :=
  let v := meterGet s.svu.meters m
  if s.svu.loaded ∧ v ≠ meterTop then min meterTop (v + (remainderGet s m + n) / carryUnit m) else v

/-- The remainder of a meter after an increment (R163). -/
def remainderAfter (s : State) (m : Meter) (n : Nat) : Nat :=
  if s.svu.loaded ∧ meterGet s.svu.meters m ≠ meterTop then
    (if carryUnit m = 1 then remainderGet s m else (remainderGet s m + n) % carryUnit m)
  else remainderGet s m

/-- The items of an event that moves meters (R163, R170, R171): an item whose meter has changed is in the state that the
meter gives it, its acknowledged flag kept only if neither the last value nor one that the meter went `through` in the
event gave it another state; every other item is as it was. -/
def ItemsFollow (s u : State) (through : Meter → List Nat) : Prop :=
  ∀ k, itemAt u k = (itemAt s k).map fun i =>
    let v := meterGet u.svu.meters i.defn.meter
    if v = meterGet s.svu.meters i.defn.meter then i
    else { i with
      state := itemStateAt i.defn v
      acked := i.acked && (v :: through i.defn.meter).all fun x => decide (itemStateAt i.defn x = i.state) }

/-- The notices of an event that touches items, where none of its notices met a full queue (R171, R177, R188): an
ITEM_STATE for each item in another state, a RESTRICTION for another summary. -/
def ItemNotices (s u : State) : Prop :=
  u.lnc.notices.length < 24 →
    (∀ k i, itemAt s k = some i → ∀ j, itemAt u k = some j → j.state ≠ i.state →
      NoticeWaits .itemState k.val (itemSeverity j.state) (some (itemStateCode j.state)) u) ∧
    (u.svu.summary ≠ s.svu.summary →
      NoticeWaits .restriction 0 (if u.svu.summary = .clear then .info else .warn)
        (some (powerRank u.svu.summary.ceiling + (if u.svu.summary.singleEngine then 4 else 0) +
          (if u.svu.summary.slewCreep then 8 else 0))) u)

/-- What the meters of an event bring about in the Service Unit (R163, R165, R170, R171, R177): the items follow with
their notices, the summary is formed anew if a meter has changed, and METERS is asked for again in a CLOSING whose entry
save has begun. -/
def MetersReach (s u : State) (through : Meter → List Nat) : Prop :=
  ItemsFollow s u through ∧
  u.svu.summary = (if u.svu.meters = s.svu.meters then s.svu.summary else summaryOf u.svu.items) ∧
  ItemNotices s u ∧
  (s.mdc.mode = .closing → s.svu.entrySaveBegun = true → u.svu.meters ≠ s.svu.meters → SaveAsked .meters u)

/-- The slew creep and data-lost terms of a function follow a changed summary (R103). -/
def TermsFollow (s u : State) (f : HydFn) : Prop :=
  (u.svu.summary = s.svu.summary →
    (capRow u f).slewCreep = (capRow s f).slewCreep ∧ (capRow u f).dataLost = (capRow s f).dataLost) ∧
  (u.svu.summary ≠ s.svu.summary →
    (capRow u f).slewCreep =
      (if u.svu.summary.slewCreep ∧ (f = .slewLeft ∨ f = .slewRight) then calSlewCreep s.rts.cal else 100) ∧
    (capRow u f).dataLost = if s.evu.dataLost then calServiceCreep s.rts.cal else 100)

/-- The caps of an event that reaches them through the summary alone (R103, R113 to R115, R122): a summary that stands
leaves them and the monitors, a changed one sets the two terms, forms the caps anew and lets the granted ones only fall; a
monitor moves only where its granted cap falls. -/
def SummaryMovesCaps (s u : State) : Prop :=
  (u.svu.summary = s.svu.summary → u.evu.caps = s.evu.caps ∧ u.evu.monitors = s.evu.monitors) ∧
  (u.svu.summary ≠ s.svu.summary → ∀ f, TermsFollow s u f ∧
    (capRow u f).fence = (capRow s f).fence ∧ (capRow u f).hold = (capRow s f).hold ∧
    (capRow u f).computed = computedCap u f ∧
    (capRow u f).granted = min (capRow s f).granted (capRow u f).computed ∧
    ((capRow u f).granted = (capRow s f).granted → monitorOf u f = monitorOf s f) ∧
    (monitorOf u f).lastResponse = (monitorOf s f).lastResponse ∧
    (monitorOf u f).violations = (monitorOf s f).violations)

/-! ### A pose in the Envelope Unit (R112) -/

/-- The grade floor of a pose as the FLOOR fence that it stands for (R56, R111). -/
def floorFence (g : GradeFloor) (limit : Int) : Fence :=
  { shape := .planar .floor limit none, enabled := true, margin := g.margin, creep := 30 }

/-- The cap that a grade floor gives a function at a pose; without its limit it creeps (R110, R111). -/
def floorCap (p : Pose) (g : GradeFloor) (f : HydFn) : Nat :=
  match g.limit with
  | some l => fenceCap (floorFence g l) p f
  | none => if f = .boomDown ∨ f = .stickIn then 30 else 100

/-- A cap that some fence in force gives a function at a pose: an enabled fence of the active set, or the grade floor
of the pose (R112). -/
def FenceGives (s : State) (p : Pose) (f : HydFn) (cap : Nat) : Prop :=
  (∃ (n : Fin 4) (i : Fin 8) (fe : Fence), s.evu.fences.active = some n ∧ s.evu.fences.sets[n][i] = some fe ∧
    fe.enabled = true ∧ cap = fenceCap fe p f) ∨
  (∃ g, p.gradeFloor = some g ∧ cap = floorCap p g f)

/-- The fence term of a function at a pose: the lowest cap that a fence in force gives it, 100 if none does (R112). -/
def IsFenceTerm (s : State) (p : Pose) (f : HydFn) (term : Nat) : Prop :=
  term ≤ 100 ∧ (∀ c, FenceGives s p f c → term ≤ c) ∧ (term = 100 ∨ FenceGives s p f term)

/-- The cap of a function at a pose that leaves it this fence term, a hold at neutral being released first (R112,
R113, R125). -/
def poseCap (s : State) (term : Nat) (f : HydFn) : Nat :=
  match s.mdc.mode with
  | .start | .halt | .closing | .sleep => 0
  | .service => calServiceCreep s.rts.cal
  | .parked | .working =>
    if (capRow s f).hold && !neutral s f then 0 else min (min term (capRow s f).slewCreep) (capRow s f).dataLost

/-- The granted cap that the pose gives: at neutral the cap itself, elsewhere it only falls (R115, R116). -/
def poseGranted (s : State) (term : Nat) (f : HydFn) : Nat :=
  if neutral s f then poseCap s term f else min (capRow s f).granted (poseCap s term f)

/-- The pose arms an IDLE monitor: its granted cap falls below the demand, and no hold made it fall (R122). -/
def poseArms (s : State) (term : Nat) (f : HydFn) : Bool :=
  workMode s.mdc.mode && !(monitorOf s f).armed && !((capRow s f).hold && s.mdc.mode != .service) &&
    decide (poseCap s term f < (capRow s f).granted) && decide (poseCap s term f < demandOf s f)

/-- An ARMED monitor whose demand is at or below its granted cap (R124). -/
def poseEnds (s : State) (term : Nat) (f : HydFn) : Bool :=
  workMode s.mdc.mode && (monitorOf s f).armed && decide (demandOf s f ≤ poseGranted s term f)

/-- An ARMED monitor, its arming grant acknowledged, whose function's own rate has come down to its share of the full
rate and a tenth of it (R123). -/
def poseMeets (s : State) (p : Pose) (term : Nat) (f : HydFn) : Bool :=
  workMode s.mdc.mode && (monitorOf s f).armed && !poseEnds s term f &&
    ((monitorOf s f).armSeq.map fun k => !namesEntry s.evu.outstanding k).getD false &&
    ((ownRate p f).map fun r => decide (r ≤
      ((poseGranted s term f * calFullRate s.rts.cal f / 100 + calFullRate s.rts.cal f / 10 : Nat) : Int))).getD false

/-- The response time of a monitor that the pose finds compliant (R123). -/
def poseResponse (s : State) (f : HydFn) : Nat := s.now - (monitorOf s f).armTime.getD 0

/-- That response is late (R123). -/
def poseLate (s : State) (p : Pose) (term : Nat) (f : HydFn) : Bool :=
  poseMeets s p term f && decide (calLateThreshold s.rts.cal < poseResponse s f)

/-- The monitor after the pose (R122, R123, R124, R126). -/
def poseMonitor (s : State) (p : Pose) (term : Nat) (f : HydFn) : Monitor :=
  let m := monitorOf s f
  if poseArms s term f then
    { m with armed := true, armTime := some s.now, armSeq := some ((s.evu.grant.seq + 1) % 256) }
  else if poseEnds s term f then { m with armed := false, armTime := none, armSeq := none }
  else if poseMeets s p term f then
    { armed := false, armTime := none, armSeq := none, lastResponse := some (poseResponse s f)
      violations := if poseLate s p term f then min 255 (m.violations + 1) else m.violations }
  else m

/-! ### A pose in the Payload Unit (R60 to R73) -/

/-- `q` is the quotient `p / d` rounded to the nearest integer, a half going away from zero (00 section 5.3). -/
def Rounds (q p : Int) (d : Nat) : Prop :=
  (2 * (q * d - p)).natAbs ≤ d ∧ ((2 * (q * d - p)).natAbs = d → p.natAbs ≤ (q * d).natAbs)

/-- A weigh sample from the pressures, the boom angle and the distance r (R66 to R68). -/
def IsSample (cal : Calibration) (pr : Reading) (boom r : Int) (y : Sample) : Prop :=
  let force := Int.tdiv (pr.v1 * calHeadArea cal - pr.v2 * calRodArea cal) 1000
  let moment := Int.tdiv (force * interpolate (calLeverArm cal) (-4500) 1500 boom) 1000
  let net := moment - interpolate (calEmptyMoment cal) 2000 2000 r
  ∃ m, Rounds m (net * 1000000) (9807 * r).toNat ∧ y.overload = decide (60000 < m) ∧
    (y.mass : Int) = if m < 0 then 0 else if 60000 < m then 60000 else m

/-- The sample list after a pose has been offered to the accumulator: one sample more, of the latest 32, when R65 holds,
the same list when it does not (R65, R69). -/
def Offered (s : State) (p : Pose) (l l' : List Sample) : Prop :=
  (∀ x boom pr, p.coords = some x → p.boom = some boom → s.siu.boomPress.accepted = some pr →
    s.siu.boomPress.state = .valid → 1000 ≤ x.x3 - x.xp →
    ∃ y, IsSample s.rts.cal pr boom (x.x3 - x.xp) y ∧ l' = if l.length < 32 then l ++ [y] else l.drop 1 ++ [y]) ∧
  (s.siu.boomPress.state ≠ .valid ∨ (∃ x, p.coords = some x ∧ x.x3 - x.xp < 1000) → l' = l)

/-- The pass record that the accumulator gives at a dump, as the pass of this number (R70, R71). -/
def IsPass (s : State) (number : Nat) (x : Pass) : Prop :=
  x.number = number ∧ x.overload = s.plu.samples.any (·.overload) ∧
  x.carryMs = min 65535 (s.now - s.plu.carryStart.getD 0) ∧
  x.fuelAtDump = s.svu.meters.fuel * 1000 + s.svu.fuelRem ∧
  (s.plu.samples.length < 8 → x.payload = none) ∧
  (8 ≤ s.plu.samples.length → ∃ q, x.payload = some q ∧
    2 * s.plu.samples.length * q ≤ 2 * (s.plu.samples.map (·.mass)).sum + s.plu.samples.length ∧
    2 * (s.plu.samples.map (·.mass)).sum + s.plu.samples.length < 2 * s.plu.samples.length * (q + 1))

/-- The truck that a pass joins: the open one, or a new one (R71). -/
def openedTruck (s : State) : Truck :=
  s.plu.truck.getD
    { number := s.plu.nextNumber, target := if s.eeu.settings.truckTarget = 0 then none else some s.eeu.settings.truckTarget
      passes := [], total := 0, fuelMark := s.plu.carryFuel.getD 0, overload := false }

/-- The truck after a pass has joined it (R71). -/
def truckWith (t : Truck) (x : Pass) : Truck :=
  { t with passes := t.passes ++ [x], total := t.total + x.payload.getD 0, overload := t.overload || x.overload }

/-- The notices of a pass that has made the truck `t` into `t'` (R72, R73, R76). -/
def PassNotices (t t' : Truck) (x : Pass) (u : State) : Prop :=
  let loads := t'.passes.filterMap (·.payload)
  NoticeWaits .passWeighed t.number (if x.overload then .warn else if x.payload = none then .advise else .info)
    (some (x.payload.getD 0)) u ∧
  (∀ g, t.target = some g → t.total < g → g ≤ t'.total →
    NoticeWaits .targetReached t.number .advise (some t'.total) u) ∧
  (∀ g, t.target = some g → loads ≠ [] → t'.total < g → g * 105 / 100 < t'.total + loads.sum / loads.length →
    NoticeWaits .lastPass t.number .advise (some t'.total) u) ∧
  (t'.passes.length = 12 →
    NoticeWaits .truckClosed t.number (if t'.overload then .warn else .info) (some t'.total) u)

/-- The state `u` after a pass record has joined the open truck or a new one, which its twelfth pass closes (R71 to R73,
R75 to R77). -/
def PassJoins (s : State) (x : Pass) (u : State) : Prop :=
  let t := openedTruck s
  let t' := truckWith t x
  u.plu = { s.plu with
    detector := .return, truck := u.plu.truck, completed := u.plu.completed, nextNumber := u.plu.nextNumber } ∧
  u.plu.nextNumber = (if s.plu.truck.isSome then s.plu.nextNumber
    else if s.plu.nextNumber = 65535 then 0 else s.plu.nextNumber + 1) ∧
  (t'.passes.length ≠ 12 → u.plu.truck = some t' ∧ u.plu.completed = s.plu.completed) ∧
  (t'.passes.length = 12 → u.plu.truck = none ∧ SaveAsked .trucks u ∧
    u.plu.completed = joinSummary s.plu.completed (summaryOfTruck t' s.clock.time) ∧
    meterGet u.svu.meters .payload = meterAfter s .payload t'.total ∧
    meterGet u.svu.meters .passes = meterAfter s .passes 12 ∧
    u.svu.payloadRem = remainderAfter s .payload t'.total ∧
    meterGet u.svu.sums .payload = s.svu.sums.payload + (if s.svu.loaded then 0 else t'.total) ∧
    meterGet u.svu.sums .passes = s.svu.sums.passes + (if s.svu.loaded then 0 else 12)) ∧
  (s.lnc.notices.length ≤ 4 → s.svu.items = Vector.replicate 32 none → PassNotices t t' x u)

/-! ### Invariants -/

/-- The cap table is formed: each computed cap is the one its inputs give by the part mode, and no granted cap stands
above it (R113, R115). -/
def CapsFormed (s : State) : Prop :=
  ∀ f, (capRow s f).computed = computedCap s f ∧ (capRow s f).granted ≤ (capRow s f).computed

/-- The notice queue holds at most 24 entries and never two with the same kind and subject (R188). -/
def NoticesOk (s : State) : Prop :=
  s.lnc.notices.length ≤ 24 ∧
    s.lnc.notices.Pairwise fun a b => a.kind ≠ b.kind ∨ a.subject ≠ b.subject

/-- The pending-save set holds no duplicates (R194). -/
def SavesOk (s : State) : Prop := s.rts.pendingSave.Nodup

/-- The waiting list never holds the holder, holds masters in order of priority and so never one twice, and is empty
while nobody holds the token (R87); nothing is staged without a holder (R93), and a half-write stands only over a
staged subject (R184). -/
def TokenOk (s : State) : Prop :=
  (s.rts.token.waiting.Pairwise fun a b => masterRank a.who < masterRank b.who) ∧
  (∀ h, s.rts.token.holder = some h → ∀ w ∈ s.rts.token.waiting, w.who ≠ h.who) ∧
  (s.rts.token.holder = none → s.rts.token.waiting = [] ∧ s.rts.token.staging = none) ∧
  (s.lnc.half.isSome = true → s.rts.token.staging.isSome = true)

/-- A part is in HALT only while the calibration status is INVALID (R5, R9). -/
def HaltOk (s : State) : Prop := s.mdc.mode = .halt → s.mdc.calStatus = .invalid

/-- The grant record of an awake part holds what stands: the granted caps, the limit, the group orders, the effective
mode, the part mode and the validity parts (R117). -/
def GrantCurrent (s : State) : Prop := awake s = true → grantContent s = s.evu.grant

/-- The setpoint of a slot as R155 gives it, by the first row that applies. -/
def IsSetpoint (s : State) (e : Engine) (speed : Nat) : Prop :=
  let drives := (slotGet s e).state = .joining ∨ (slotGet s e).state = .online ∨ (slotGet s e).state = .leaving
  let low := s.eeu.ladder = .lowIdle ∨ s.eeu.ladder = .shutdownWarning ∨ s.eeu.ladder = .shutDown
  speed = if s.mdc.calStatus = .invalid then 0
    else if s.mdc.mode = .start ∨ s.mdc.mode = .halt ∨ ¬ drives ∨ low then (calField s.rts.cal 42).toNat
    else if s.eeu.ladder = .autoIdle then (calField s.rts.cal 41).toNat
    else (calField s.rts.cal (match s.eeu.effective with
      | .peak => 37
      | .standard => 38
      | .economy => 39
      | .warmup => 40)).toNat

/-- The economy of an awake part holds what stands: the effective mode is the lowest in rank of the selected mode, the
power ceiling and the warm-up limit, and WARMUP in START (R158, R177; log 37); the pump power limit the sum over the
ONLINE slots of rated power times factor, 0 without a valid calibration (R156, R159); each slot's request the one that its
state and its setpoint give, none for an UNUSED slot (R131, R155). -/
def EconomyCurrent (s : State) : Prop := awake s = true →
  powerRank s.eeu.effective = (if s.mdc.mode = .start then 0
    else min (min (powerRank s.eeu.settings.mode) (powerRank s.svu.summary.ceiling)) (if s.eeu.warmup then 0 else 3)) ∧
  (let factor := match s.eeu.effective with
     | .warmup => 40
     | .economy => 75
     | .standard => 90
     | .peak => 100
   let term := fun (x : Slot) (rated : Int) => if x.state = .online then rated.toNat * factor / 100 else 0
   s.eeu.limit = if s.mdc.calStatus = .invalid then 0
     else term s.eeu.slot1 (calField s.rts.cal 35) + term s.eeu.slot2 (calField s.rts.cal 36)) ∧
  ∀ e, ((slotGet s e).state = .unused → (slotGet s e).request = none) ∧
    ((slotGet s e).state ≠ .unused → ∃ r, (slotGet s e).request = some r ∧ IsSetpoint s e r.speed ∧
      r.ask = match (slotGet s e).state with
        | .starting => .start
        | .stopping => .stop
        | _ => .none)

/-- The ladder of an awake part stands at SHUTDOWN_WARNING exactly while a countdown is set, and a countdown is held at 0
only while a no-stop flag stands: a running engine's, of a slot neither UNUSED nor FAULTED (R150). -/
def LadderOk (s : State) : Prop := awake s = true →
  (s.eeu.ladder = .shutdownWarning ↔ s.eeu.countdown.isSome = true) ∧
  ∀ c, s.eeu.countdown = some c → c.shown = 0 → ∃ e, (slotGet s e).state ≠ .unused ∧ (slotGet s e).state ≠ .faulted ∧
    ∃ x, (slotGet s e).status = some x ∧ x.state = .running ∧ x.noStop = true

/-- The outstanding list holds consecutive sequences, the last of them the latest grant's, at most 128 (R119). -/
def GrantListOk (s : State) : Prop :=
  s.evu.outstanding.length ≤ 128 ∧ (∀ e ∈ s.evu.outstanding, e.1 < 256) ∧
  (s.evu.outstanding.IsChain fun a b => b.1 = (a.1 + 1) % 256) ∧
  ∀ e, s.evu.outstanding.getLast? = some e → e.1 = s.evu.grant.seq

end Sys2Proof.Machine
end

