-- ==== Sys2Proof/WellFormed.lean ====
section
/-! DEFINITION. When a command is well formed: every number fits the field of the frame that carries it
(R182), and a command that has a row of its own for one value of an argument does not carry that value. -/

namespace Sys2Proof

/-- A one-byte field. -/
abbrev fits8 (n : Nat) : Bool := decide (n < 256)

/-- A two-byte field. -/
abbrev fits16 (n : Nat) : Bool := decide (n < 65536)

/-- A four-byte field. -/
abbrev fits32 (n : Nat) : Bool := decide (n < 4294967296)

/-- A signed field of `k` bytes. -/
abbrev fitsSigned (k : Nat) (v : Int) : Bool := decide (-((256 ^ k / 2 : Nat) : Int) ≤ v) && decide (v < ((256 ^ k / 2 : Nat) : Int))

/-- A temperature field, sent as degrees + 40 in one byte. -/
abbrev fitsTemp (v : Int) : Bool := decide (-40 ≤ v) && decide (v ≤ 215)

/-- Every number of the command fits its field. A code that READ or a known command has is no unknown code,
but for READ's own code, which stands for a READ of a record kind that does not exist (R185). A discarded
frame is one the dispatcher does not take. -/
def Instr.wellFormed : Instr → Bool
  | .sensorSample _ v1 v2 counter _ => fitsSigned 3 v1 && fitsSigned 3 v2 && decide (counter < 16)
  | .pvcState demand lockout oil applied _ _ => fits16 demand && fits8 lockout && fitsTemp oil && fits8 applied
  | .pvcLevers d => fits8 d.boomUp && fits8 d.boomDown && fits8 d.stickIn && fits8 d.stickOut &&
      fits8 d.bucketCurl && fits8 d.bucketDump && fits8 d.slewLeft && fits8 d.slewRight
  | .engineStatus _ code speed coolant fuel load _ =>
      fits8 code && fits16 speed && fitsTemp coolant && fits16 fuel && fits8 load
  | .frameDiscarded l kind node len =>
      decide (kind < 128) && decide (node < 16) && decide (len ≤ 8) && !frameTaken l kind node len
  | .unknownCommand _ code => fits8 code && (decide (code ≤ 1) || decide (36 < code))
  | .readFenceSet _ n | .readItem _ n | .tokenRequest _ n | .stageSet _ n | .stageItem _ n | .fenceClear _ n
  | .ackItem _ n | .serviceDone _ n | .extendItem _ n | .selectMode _ n => fits8 n
  | .fenceWriteFirst _ i kind en margin creep => fits8 i && fits8 kind && fits8 en && fits16 margin && fits8 creep
  | .fenceWriteSecond _ i w1 w2 => fits8 i && fits16 w1 && fits16 w2
  | .fenceSector _ i form a b => fits8 i && fits8 form && fits16 a && fits16 b
  | .itemWrite _ field v => fits8 field && decide (field ≠ 255) && fitsSigned 4 v
  | .calWrite _ field v => fits8 field && fitsSigned 4 v
  | .commit _ crc => fits16 crc
  | .selectSet _ n => fits8 n && decide (n ≠ 4)
  | .setGrade _ z sl x => fitsSigned 2 z && fitsSigned 2 sl && fitsSigned 2 x
  | .setGradeStop _ stop margin => fits8 stop && fits16 margin
  | .meterWrite _ code v => fits8 code && fits32 v
  | .setClock _ v => fits32 v
  | .setIdle _ a b => fits8 a && fits8 b
  | .setTruckTarget _ kg => fits32 kg
  | .mainSupplyApplied | .supplyLow | .supplyRecovered | .resetLineAsserted | .resetLineReleased
  | .keyLevelChange _ | .keyOffTaken | .keyOnTaken | .loadingComplete | .stSilenceTimeout | .enterSleep
  | .partResetTakesEffect | .stalenessMark _ | .failureMark _ | .poseTimer | .poseReportTimer
  | .leverStalenessMark | .grantRefresh | .grantUnconfirmed | .responseFailTimeout _
  | .engineSilence _ | .engineRequestRefresh _ | .startTimeout _ | .joinRefused _ | .leaveRefused _
  | .cooldownEnd _ | .stopTimeout _ | .retryWaitEnd _ | .joinHoldReached | .leaveHoldReached
  | .autoIdleTimeout | .lockoutTimeout | .shutdownDelayEnd | .countdownStep | .countdownEnd | .fuelTimer
  | .feedTimer | .saveTimer | .reminderTimer | .clockSecond | .pvcSilent | .tokenSilence | .frameTransmit _
  | .regionWriteComplete | .regionWriteFail | .commandCrcError | .backupSupplyFailed | .noticeSpacingElapsed
  | .readStatus _ | .readPose _ | .readChannels _ | .readMeters _ | .readOpenTruck _ | .readCompletedTrucks _
  | .readSettings _ | .readCalibration _ | .tokenRelease _ | .abandon _ | .stageCal _ | .itemWriteClear _
  | .selectSetNone _ | .lockFences _ | .unlockFences _ | .enterService _ | .exitService _ | .partReset _
  | .engineReset _ | .clearViolations _ | .clearFaults _ | .clearGrade _ | .truckDone _ | .idleHold _ => true

end Sys2Proof
end

