-- ==== Sys2Proof/Certificates/Slice0/Obligations.lean ====
section
/-! DEFINITION. The statements for the provers, in the order of OBLIGATIONS.json. A statement that a command completes
says so as `Completes` or `EventGives`, with the whole frame as one equation: the state after is the state before with
the named fields replaced, but for what the end of any event may still move (`eventEnd`). -/

open Sys2Proof Sys2Proof.Machine

/-! ### The queue and the passage of time -/

/-- A step takes the command at the front of the queue and runs it over the queue's rest. -/
def Obligations.StepTakesTheFrontCommand : Prop :=
  ∀ (i : Instr) (rest : List Instr) (s : State), s.pending = i :: rest →
    step s = exec i { s with pending := rest }

/-- On an empty queue (the model's choice, log 1): an entry to SLEEP or a reset that is due is queued, no time passing;
else a millisecond passes and the queue then holds exactly the marks reached, each once: every mark of the part's own
timers whose time has come (of a part that is not awake the key's and the clock's alone; of the notice spacing, where a
notice waits for nothing else), the end of a loading that has run 400 ms and the end of a write that has run 250 ms (the
model's choice, log 13). -/
def Obligations.EmptyQueueLetsTimePass : Prop :=
  ∀ s : State, s.pending = [] →
    (sleepDue s = true → step s = .next { s with pending := [.enterSleep] }) ∧
    (sleepDue s = false → partResetDue s = true → step s = .next { s with pending := [.partResetTakesEffect] }) ∧
    (sleepDue s = false → partResetDue s = false →
      ∃ t, step s = .next t ∧ t = { s with now := s.now + 1, pending := t.pending } ∧
        t.pending.length = (dueMarks { s with now := s.now + 1 }).length ∧
        (∀ i, i ∈ t.pending ↔ i ∈ dueMarks { s with now := s.now + 1 }) ∧ t.pending.Nodup ∧
        ∀ i, i ∈ t.pending ↔
          (markReached { s with now := s.now + 1 } i = some true ∧
            (awake s = true ∨ i = .keyOffTaken ∨ i = .keyOnTaken ∨ i = .clockSecond) ∧
            (i = .noticeSpacingElapsed →
              s.lnc.ctlB = none ∧ s.lnc.replies = [] ∧ s.lnc.txPose = [] ∧ s.lnc.notices ≠ [])) ∨
          (i = .loadingComplete ∧ awake s = true ∧ s.mdc.mode = .start ∧
            reached s.eeu.feedTimer 400 (s.now + 1) = true) ∨
          (i = writeEnd (s.now + 1) ∧ awake s = true ∧
            ∃ w, s.rts.inFlight = some w ∧ w.since + 250 ≤ s.now + 1))

/-- Every command ends in a next state; none changes the queue of the commands that wait, and none takes part time (the
model's choice, log 1). -/
def Obligations.EveryCommandKeepsQueueAndTime : Prop :=
  ∀ (i : Instr) (s : State), ∃ t, exec i s = .next t ∧ t.pending = s.pending ∧ t.now = s.now

/-- A mark command that comes before its mark is reached changes nothing (the model's choice, log 1), and on a part in
SLEEP, without supply or in reset every command is lost but those of the supplies, the reset line, the key and the
calendar clock (R12, R13, R179). -/
def Obligations.CommandsOutOfPlaceChangeNothing : Prop :=
  ∀ (i : Instr) (s : State), (markReached s i = some false → exec i s = .next s) ∧
    (awake s = false → actsAsleep i = false → exec i s = .next s)

/-! ### What every command of a master shares -/

/-- In START every command but READ is answered REFUSED_STATE (R4); a command that arrives while 8 replies wait is not
carried out, and sets the COMMAND_DROPPED flag without a reply (R183). Nothing else follows from either but that the
frame was heard (R8, R92). Model's choices: log 19, and log 39: the 8 are all the replies that wait, a commit's own among
them, where R183 lets the queue hold 8 besides the reply of a commit. -/
def Obligations.StartRefusesAndAFullQueueDrops : Prop :=
  ∀ (i : Instr) (m : Master) (code : Nat) (s : State), commandOf i = some (m, code) → awake s = true →
    (code ≠ 1 → s.mdc.mode = .start → s.lnc.replies.length < 8 → EventGives i s fun u =>
      u.lnc.replies = repliesWith s code .refusedState none m [] ∧ u = eventEnd (heardOnB m.node s) u) ∧
    (8 ≤ s.lnc.replies.length → EventGives i s fun u =>
      u.lnc.replies = s.lnc.replies ∧
      u = { eventEnd (heardOnB m.node s) u with lnc.commandDropped := true })

/-- A command from a master outside the roles of its rule is answered REFUSED_ROLE and changes nothing more.
Model's choices: log 19 (the role before the other checks where a rule gives no order). -/
def Obligations.SendersOutsideTheirRoleAreRefused : Prop :=
  ∀ (i : Instr) (m : Master) (code : Nat) (s : State),
    commandOf i = some (m, code) → CommandsTaken s → senderRefused s i = true →
    EventGives i s fun u =>
      u.lnc.replies = repliesWith s code .refusedRole none m [] ∧ u = eventEnd (heardCommand m code s) u

/-- The commands of the edit session, past the role check, in the order of R94: REFUSED_TOKEN from a master that is
not the holder, REFUSED_BUSY while a commit is in progress, REFUSED_STATE without the subject staged. -/
def Obligations.EditChecksInOrder : Prop :=
  ∀ (i : Instr) (m : Master) (code : Nat) (s : State),
    commandOf i = some (m, code) → editCommand i = true → CommandsTaken s → senderRefused s i = false →
    (holds m s = false → EventGives i s fun u =>
      u.lnc.replies = repliesWith s code .refusedToken none m [] ∧ u = eventEnd (heardCommand m code s) u) ∧
    (holds m s = true → s.rts.token.commit.isSome = true → EventGives i s fun u =>
      u.lnc.replies = repliesWith s code .refusedBusy none m [] ∧ u = eventEnd (heardCommand m code s) u) ∧
    (MayEdit m s → subjectStaged s i = false → EventGives i s fun u =>
      u.lnc.replies = repliesWith s code .refusedState none m [] ∧ u = eventEnd (heardCommand m code s) u)

/-! ### Supplies, resets, key -/

/-- Each event that ends a reset gives a freshly reset part with its own cause, BACKUP_LOST when the calendar clock is
invalid (R13, R14). Model's choices: log 4 (the events, and the links of a part fresh from reset), 5 (the live records
before loading), 6 (the meters at 0), 7 (the POSE_REPORT timer's start), 34 (no lever arrival, no day mark) and 40 (the
controllers empty before they take the first frames). -/
def Obligations.EveryResetGivesTheResetValues : Prop :=
  ∀ s : State,
    (s.power.resetLine = false → Completes .mainSupplyApplied s (FreshlyReset .powerOn s)) ∧
    (s.power.mainGood = false → s.power.resetLine = false → Completes .supplyRecovered s (FreshlyReset .supplyLow s)) ∧
    (s.power.resetLine = true → s.power.mainGood = true →
      Completes .resetLineReleased s (FreshlyReset .resetLine s)) ∧
    (keyDue .on s = true → s.mdc.mode = .sleep → Completes .keyOnTaken s (FreshlyReset .keyWake s)) ∧
    (partResetDue s = true → Completes .partResetTakesEffect s (FreshlyReset .serviceReset s))

/-- Loss of supply and the reset line hold the part: volatile state lost, the part not running, the clock and the store
kept but for the bank of a write in flight, which is left not good (R13, R194). The events that end no reset: under the
asserted reset line the part stays held, a release without main supply ends nothing, an event that brings no change
changes nothing, and a failed backup supply without main supply leaves the clock invalid (R13, R196).
Model's choices: log 4 and 21, for the values that a lost record stands at 5, 6 and 34, and 40 (the controllers emptied). -/
def Obligations.SupplyAndResetLineHoldThePart : Prop :=
  (∀ (i : Instr) (s : State),
     (i = .supplyLow ∧ s.power.mainGood = true) ∨ (i = .resetLineAsserted ∧ s.power.resetLine = false) →
     Completes i s fun t =>
       VolatileLost t ∧ running t = false ∧ t.power.keyTimer = none ∧ t.power.keyLevel = s.power.keyLevel ∧
       (i = .supplyLow → t.power.mainGood = false ∧ t.power.resetLine = s.power.resetLine) ∧
       (i = .resetLineAsserted → t.power.resetLine = true ∧ t.power.mainGood = s.power.mainGood) ∧
       t.clock = s.clock ∧ t.now = s.now ∧ t.pending = s.pending ∧
       (s.rts.inFlight = none → t.store = s.store) ∧
       (∀ w, s.rts.inFlight = some w →
         bankCheck t.store (regionOf w.content) w.bank = .bad ∧
         SameButBank s.store t.store (regionOf w.content) w.bank ∧
         bankSource t.store (regionOf w.content) = bankSource s.store (regionOf w.content))) ∧
  (∀ s : State,
     (s.power.resetLine = true → Completes .mainSupplyApplied s fun t =>
       VolatileLost t ∧ running t = false ∧ t.power.mainGood = true ∧ t.clock = s.clock) ∧
     (s.power.mainGood = false → Completes .supplyLow s (· = s)) ∧
     (s.power.mainGood = true → Completes .supplyRecovered s (· = s)) ∧
     (s.power.mainGood = false → s.power.resetLine = true →
       Completes .supplyRecovered s (· = { s with power.mainGood := true })) ∧
     (s.power.resetLine = true → Completes .resetLineAsserted s (· = s)) ∧
     (s.power.resetLine = false → Completes .resetLineReleased s (· = s)) ∧
     (s.power.resetLine = true → s.power.mainGood = false →
       Completes .resetLineReleased s (· = { s with power.resetLine := false })) ∧
     (s.power.mainGood = true → Completes .backupSupplyFailed s (· = s)) ∧
     (s.power.mainGood = false → Completes .backupSupplyFailed s (· = { s with clock.time := none })))

/-- The key filter of R3: a new level starts the 50 ms, a return cancels them, and before they have passed nothing is
taken; a level taken is the key state, and in START, and for a key-off in SLEEP or CLOSING, nothing more follows. -/
def Obligations.KeyLevelsAreFiltered : Prop :=
  ∀ s : State,
    (∀ l, l ≠ s.power.keyLevel → Completes (.keyLevelChange l) s fun t =>
      t = { s with power.keyLevel := l
                   power.keyTimer := if running s = true ∧ l ≠ s.mdc.keyState then some s.now else none }) ∧
    Completes (.keyLevelChange s.power.keyLevel) s (· = s) ∧
    (s.power.keyTimer = none ∨ (∃ t, s.power.keyTimer = some t ∧ s.now < t + 50) →
      Completes .keyOnTaken s (· = s) ∧ Completes .keyOffTaken s (· = s)) ∧
    (keyDue .on s = true → s.mdc.mode ≠ .sleep → s.mdc.mode ≠ .closing → Completes .keyOnTaken s fun t =>
      t = { s with mdc.keyState := .on, power.keyTimer := none }) ∧
    (keyDue .off s = true → s.mdc.mode = .sleep → Completes .keyOffTaken s fun t =>
      t = { s with mdc.keyState := .off, power.keyTimer := none }) ∧
    (keyDue .off s = true → (s.mdc.mode = .start ∨ s.mdc.mode = .closing) → EventGives .keyOffTaken s fun u =>
      u = { eventEnd s u with mdc.keyState := .off, power.keyTimer := none })

/-- A key-off taken with the key on closes the shift (R3, R10): every cap 0 and every monitor IDLE, the ladder at
SHUT_DOWN and the idle hold clear, the open truck closed into the list, METERS asked for (TRUCKS too for a truck), the
token record cleared but for a commit in progress. The truck's total and pass count go to the PAYLOAD and PASSES meters,
or before loading completes to their pending sums (R76, R163, R164), with the items that track them and the restriction
summary (R171, R177), and a changed summary to the slew creep and data-lost terms (R103); nothing else moves.
Model's choices: log 28 (the arm time and arming sequence of a monitor that becomes IDLE). -/
def Obligations.KeyOffClosesTheShift : Prop :=
  ∀ s : State, keyDue .off s = true →
    (s.mdc.mode = .parked ∨ s.mdc.mode = .working ∨ s.mdc.mode = .service ∨ s.mdc.mode = .halt) →
    EventGives .keyOffTaken s fun u =>
      (∀ f, (capRow u f).computed = 0 ∧ (capRow u f).granted = 0 ∧ (monitorOf u f).armed = false ∧
        (monitorOf u f).lastResponse = (monitorOf s f).lastResponse ∧
        (monitorOf u f).violations = (monitorOf s f).violations) ∧
      (∀ f, (capRow u f).fence = (capRow s f).fence ∧ (capRow u f).hold = (capRow s f).hold ∧
        (u.svu.summary = s.svu.summary →
          (capRow u f).slewCreep = (capRow s f).slewCreep ∧ (capRow u f).dataLost = (capRow s f).dataLost) ∧
        (u.svu.summary ≠ s.svu.summary →
          (capRow u f).slewCreep =
            (if u.svu.summary.slewCreep ∧ (f = .slewLeft ∨ f = .slewRight) then calSlewCreep s.rts.cal else 100) ∧
          (capRow u f).dataLost = if s.evu.dataLost then calServiceCreep s.rts.cal else 100) ∧
        monitorOf u f = if (monitorOf s f).armed then
          { monitorOf s f with armed := false, armTime := none, armSeq := none } else monitorOf s f) ∧
      u.eeu.ladder = .shutDown ∧
      u.plu.truck = none ∧ u.plu.detector = .ready ∧ u.plu.samples = [] ∧ u.plu.nextNumber = s.plu.nextNumber ∧
      u.plu.carryStart = none ∧ u.plu.carryFuel = none ∧
      (s.plu.truck = none → u.plu.completed = s.plu.completed ∧ u.svu.meters = s.svu.meters ∧
        u.svu.payloadRem = s.svu.payloadRem ∧ u.svu.sums = s.svu.sums) ∧
      (∀ x, s.plu.truck = some x →
        u.plu.completed = joinSummary s.plu.completed (summaryOfTruck x s.clock.time) ∧ SaveAsked .trucks u ∧
        meterGet u.svu.meters .payload = meterAfter s .payload x.total ∧
        meterGet u.svu.meters .passes = meterAfter s .passes x.passes.length ∧
        (∀ m, m ≠ .payload → m ≠ .passes → meterGet u.svu.meters m = meterGet s.svu.meters m) ∧
        u.svu.payloadRem = remainderAfter s .payload x.total ∧
        (∀ m, meterGet u.svu.sums m = meterGet s.svu.sums m + if s.svu.loaded then 0 else match m with
          | .payload => x.total
          | .passes => x.passes.length
          | _ => 0)) ∧
      (∀ k, itemAt u k = (itemAt s k).map fun i =>
        if meterGet u.svu.meters i.defn.meter = meterGet s.svu.meters i.defn.meter then i else
          let st := itemStateAt i.defn (meterGet u.svu.meters i.defn.meter)
          { i with state := st, acked := i.acked && decide (i.state = st) }) ∧
      u.svu.summary = (if u.svu.meters = s.svu.meters then s.svu.summary else summaryOf u.svu.items) ∧
      ItemNotices s u ∧ SaveAsked .meters u ∧
      u.rts.token = { Token.reset with commit := s.rts.token.commit } ∧
      u = { eventEnd s u with
        power.keyTimer := none, mdc.mode := .closing, mdc.keyState := .off, mdc.stSilence := none
        plu := u.plu, evu.caps := u.evu.caps, evu.monitors := u.evu.monitors, eeu.idleHold := false
        rts.token := u.rts.token, lnc.half := none
        svu := { u.svu with
          fuelRem := s.svu.fuelRem, slewRem := s.svu.slewRem
          loaded := s.svu.loaded, dayMark := s.svu.dayMark, metersLost := s.svu.metersLost
          saveTimer := none, reminderTimer := none } }

/-- A key-on taken in CLOSING returns the part to PARKED, or to HALT while the calibration status is INVALID, without a
reset: every other volatile record keeps its value, the save and reminder timers start, PVC_SILENT arises if 500 ms
have passed (R11, R114, R165, R172, R187). With SLEEP due and no reply awaited the part sleeps and wakes in one event, a
freshly reset part with cause KEY_WAKE (R11, R12). Model's choices: log 15 and 21, and for the values of that reset those
of EveryResetGivesTheResetValues. -/
def Obligations.KeyOnReturnsFromClosing : Prop :=
  ∀ s : State, keyDue .on s = true → s.mdc.mode = .closing →
    (s.mdc.sleepWait = some 0 → Completes .keyOnTaken s fun t => FreshlyReset .keyWake s t ∧ t.store = s.store) ∧
    (s.mdc.sleepWait ≠ some 0 → EventGives .keyOnTaken s fun u =>
      u.mdc.mode = (if s.mdc.calStatus = .valid then .parked else .halt) ∧
      (s.mdc.calStatus = .valid → ∀ f,
        (capRow u f).fence = lowered s f (capRow s f).computed ∧
        (capRow u f).granted = min (capRow s f).granted (capRow u f).computed ∧
        (capRow u f).computed = (if (capRow s f).hold then 0
          else min (min (capRow u f).fence (capRow s f).slewCreep) (capRow s f).dataLost) ∧
        ((capRow u f).granted = (capRow s f).granted → monitorOf u f = monitorOf s f)) ∧
      (s.mdc.calStatus = .invalid → ∀ f, capRow u f = { capRow s f with computed := 0, granted := 0 }) ∧
      u = { eventEnd s u with
        power.keyTimer := none, mdc.mode := u.mdc.mode, mdc.keyState := .on, mdc.stSilence := none
        evu.caps := u.evu.caps, evu.monitors := u.evu.monitors
        svu.saveTimer := some s.now, svu.reminderTimer := some s.now
        lnc.pvcSilent := s.lnc.pvcSilent || reached s.lnc.pvcTimer 500 s.now })

/-- Entry to SLEEP loses the volatile state and keeps the store, the clock and the supplies; the fault line is released
(R12). Model's choices, for the values that a lost record stands at: log 5, 6 and 34; and log 40 (the controllers
emptied). -/
def Obligations.EnterSleepLosesVolatileState : Prop :=
  ∀ s : State, sleepDue s = true → Completes .enterSleep s fun t =>
    VolatileLost t ∧ t.mdc = .reset .sleep s.mdc.cause s.mdc.keyState ∧ faultLine t = false ∧
    t.store = s.store ∧ t.clock = s.clock ∧ t.power = s.power ∧ t.now = s.now ∧ t.pending = s.pending ∧
    t.draws = s.draws

/-- The end of loading (R5, R58, R81, R193): the calibration status and block, the fence state with FENCE_DATA_LOST,
the settings and the truck list come from their regions or from the values of a bad region; the mode follows from the
calibration status and the key state; the saves of bad regions are asked for. -/
def Obligations.LoadingChoosesTheMode : Prop :=
  ∀ s : State, awake s = true → s.mdc.mode = .start → EventGives .loadingComplete s fun u =>
    u.mdc.mode = (if s.mdc.keyState = .off then .closing
      else if (newerGood .calibration s.store.calibration).isSome then .parked else .halt) ∧
    (∀ b, newerGood .calibration s.store.calibration = some b →
      u.mdc.calStatus = .valid ∧ u.rts.cal = (bankGet s.store.calibration b).content) ∧
    (newerGood .calibration s.store.calibration = none → u.mdc.calStatus = .invalid ∧ u.rts.cal = .default) ∧
    (∀ b, newerGood .fences s.store.fences = some b →
      u.evu.dataLost = false ∧ u.evu.fences = (bankGet s.store.fences b).content) ∧
    (newerGood .fences s.store.fences = none → u.evu.dataLost = true ∧ u.evu.fences = .empty ∧
      (s.evu.dataLost = false → Condition.fenceDataLost ∈ u.lnc.latch)) ∧
    u.eeu.settings = (match newerGood .settings s.store.settings with
      | some b => (bankGet s.store.settings b).content
      | none => .default) ∧
    (s.plu.truck = none → u.plu.completed = (match newerGood .trucks s.store.trucks with
      | some b => (bankGet s.store.trucks b).content
      | none => [])) ∧
    u.plu.nextNumber = numberAfter (match newerGood .trucks s.store.trucks with
      | some b => (bankGet s.store.trucks b).content
      | none => []) ∧
    (newerGood .settings s.store.settings = none → SaveAsked .settings u) ∧
    (newerGood .items s.store.items = none → SaveAsked .items u) ∧
    (newerGood .meters s.store.meters = none → SaveAsked .meters u) ∧
    (newerGood .trucks s.store.trucks = none → SaveAsked .trucks u) ∧
    (∀ r b, sameBank u.store s.store r b) ∧
    (s.mdc.keyState = .on → u.svu.saveTimer = some s.now ∧ u.svu.reminderTimer = some s.now) ∧
    u.power = s.power ∧ u.clock = s.clock ∧ u.siu = s.siu ∧ u.gmu = s.gmu ∧ u.evu.levers = s.evu.levers ∧
    u.mdc.keyState = s.mdc.keyState ∧ u.mdc.lockout = s.mdc.lockout ∧ u.mdc.cause = s.mdc.cause

/-- The end of loading sets the service books (R162, R164, R167 to R170): meters and remainders from the region, or
zeros, with the pending sums applied once, and the whole days past the day mark in CALENDAR (R168); every item of the
region in the state that its meter gives, acknowledged only if it already stood there; the lead by run seconds (R128). -/
def Obligations.LoadingSetsMetersItemsAndLead : Prop :=
  ∀ s : State, awake s = true → s.mdc.mode = .start → s.plu.truck = none → EventGives .loadingComplete s fun u =>
    let c := (match newerGood .meters s.store.meters with
      | some b => (bankGet s.store.meters b).content
      | none => MetersContent.zero)
    let s0 := { s with svu.loaded := true, svu.meters := c.meters, svu.fuelRem := c.fuelRem
                       svu.payloadRem := c.payloadRem, svu.slewRem := c.slewRem }
    u.svu.loaded = true ∧ u.svu.metersLost = (s.svu.metersLost || (newerGood .meters s.store.meters).isNone) ∧
    u.svu.sums = .zero ∧
    (∀ m, m ≠ .calendar →
      meterGet u.svu.meters m = meterAfter s0 m (meterGet s.svu.sums m) ∧
      remainderGet u m = remainderAfter s0 m (meterGet s.svu.sums m)) ∧
    (let days := match c.dayMark, s.clock.time with
       | some d, some t => (t - d) / 86400
       | _, _ => 0
     let added := meterAfter s0 .calendar s.svu.sums.calendar
     meterGet u.svu.meters .calendar =
       (if days = 0 then added else meterAfter { s0 with svu.meters.calendar := added } .calendar days) ∧
     u.svu.dayMark = match c.dayMark with
       | some d => some (d + days * 86400)
       | none => s.clock.time) ∧
    (∀ f, (monitorOf u f).violations = perFnGet c.violations f) ∧
    (∀ k, itemAt u k =
      (match newerGood .items s.store.items with
        | some b => (bankGet s.store.items b).content[k]
        | none => none : Option Item).map fun i =>
          let st := itemStateAt i.defn (meterGet u.svu.meters i.defn.meter)
          { i with state := st, acked := i.acked && decide (i.state = st) }) ∧
    u.svu.summary = summaryOf u.svu.items ∧
    (u.eeu.engineCount = if u.mdc.calStatus = .invalid then 2 else calEngineCount u.rts.cal) ∧
    ((u.eeu.slot2.role = .lead ∧ u.eeu.slot1.role = .second) ↔
      (u.eeu.engineCount = 2 ∧ meterGet u.svu.meters .engine2Run < meterGet u.svu.meters .engine1Run)) ∧
    ((u.eeu.slot1.role = .lead ∧ u.eeu.slot2.role = .second) ↔
      ¬ (u.eeu.engineCount = 2 ∧ meterGet u.svu.meters .engine2Run < meterGet u.svu.meters .engine1Run))

/-! ### Sensors -/

/-- A SENSOR_SAMPLE changes its own channel alone: a repeat nothing (R20), a flagged sample the fault-flag run and at
the third the state (R21). -/
def Obligations.SamplesRepeatedOrFlagged : Prop :=
  ∀ (ch : Channel) (v1 v2 : Int) (n : Nat) (flag : Bool) (s : State), awake s = true →
    EventGives (.sensorSample ch v1 v2 n flag) s fun u =>
      let c := channelGet s.siu ch
      let c' := channelGet u.siu ch
      (c.counter = some n → c' = c) ∧
      (c.counter ≠ some n → flag = true → c.state ≠ .failed → c.flagRun < 2 →
        c' = { c with counter := some n, flagRun := c.flagRun + 1 }) ∧
      (c.counter ≠ some n → flag = true → c.state ≠ .failed → 2 ≤ c.flagRun →
        c' = { c with counter := some n, flagRun := 3, state := .failed, suspect := none, suspectRun := 0
                      recoveryRun := 0 }) ∧
      (c.counter ≠ some n → flag = true → c.state = .failed →
        c' = { c with counter := some n, flagRun := min 3 (c.flagRun + 1), suspect := none, recoveryRun := 0 }) ∧
      (∀ k, k ≠ ch → channelGet u.siu k = channelGet s.siu k) ∧
      u = { eventEnd s u with siu := u.siu }

/-- An unflagged new sample, by the state of its channel (R24 to R27, R31): accepted, held as suspect, counted toward
FAILED, or taken into the recovery run. -/
def Obligations.SamplesJudgedByState : Prop :=
  ∀ (ch : Channel) (v1 v2 : Int) (n : Nat) (s : State), awake s = true →
    (channelGet s.siu ch).counter ≠ some n →
    EventGives (.sensorSample ch v1 v2 n false) s fun u =>
      let c := { channelGet s.siu ch with counter := some n, flagRun := 0 }
      let r := readingOf ch v1 v2
      let held := if plausible ch r then some r else none
      let taken := { c with state := .valid, accepted := some r, acceptedAt := some s.now, markFrom := some s.now
                            suspect := none, suspectRun := 0, recoveryRun := 0 }
      let c' := channelGet u.siu ch
      (c.state = .absent → c' = if plausible ch r then taken else c) ∧
      (c.state = .valid → c' = if near ch r c.accepted then taken
        else { c with state := .suspect, suspect := held, suspectRun := 1 }) ∧
      (c.state = .stale → c' = if near ch r c.accepted then taken
        else { c with state := .suspect, suspect := held, suspectRun := 1, markFrom := some s.now }) ∧
      (c.state = .suspect → near ch r c.suspect ∨ near ch r c.accepted → c' = taken) ∧
      (c.state = .suspect → ¬ near ch r c.suspect → ¬ near ch r c.accepted → c.suspectRun < 2 →
        c' = { c with suspect := held, suspectRun := c.suspectRun + 1 }) ∧
      (c.state = .suspect → ¬ near ch r c.suspect → ¬ near ch r c.accepted → 2 ≤ c.suspectRun →
        c' = { c with state := .failed, suspect := none, suspectRun := 0, recoveryRun := 0 }) ∧
      (c.state = .failed → ¬ plausible ch r → c' = { c with recoveryRun := 0, suspect := none }) ∧
      (c.state = .failed → plausible ch r → c.recoveryRun = 0 ∨ ¬ near ch r c.suspect →
        c' = { c with recoveryRun := 1, suspect := some r }) ∧
      (c.state = .failed → near ch r c.suspect → c.recoveryRun = 1 →
        c' = { c with recoveryRun := 2, suspect := some r }) ∧
      (c.state = .failed → near ch r c.suspect → 2 ≤ c.recoveryRun → c' = taken) ∧
      (c'.state ≠ c.state → NoticeRoom s → NoticeWaits .sensorState ch.node
        (if c'.state = .failed then .fault else .info) (some (chStateCode c'.state)) u) ∧
      (∀ k, k ≠ ch → channelGet u.siu k = channelGet s.siu k) ∧
      u = { eventEnd s u with siu := u.siu }

/-- The staleness mark makes a VALID or SUSPECT channel STALE and drops its suspicion (R28); the failure mark makes a
STALE or SUSPECT one FAILED (R29, R30); both keep the accepted value and raise SENSOR_STATE (R33). That the failure mark
keeps a fault-flag run of 1 or 2, where two sentences of R30 pull apart, is the model's choice, log 33. -/
def Obligations.FreshnessMarksReached : Prop :=
  ∀ (ch : Channel) (s : State), awake s = true →
    ((channelGet s.siu ch).state = .valid ∨ (channelGet s.siu ch).state = .suspect →
      reached (channelGet s.siu ch).markFrom 50 s.now = true →
      EventGives (.stalenessMark ch) s fun u =>
        u = { eventEnd s u with siu := channelSet s.siu ch (
          { channelGet s.siu ch with state := .stale, suspect := none, suspectRun := 0 }) } ∧
        (NoticeRoom s → NoticeWaits .sensorState ch.node .info (some 3) u)) ∧
    ((channelGet s.siu ch).state = .stale ∨ (channelGet s.siu ch).state = .suspect →
      reached (channelGet s.siu ch).acceptedAt 500 s.now = true →
      EventGives (.failureMark ch) s fun u =>
        u = { eventEnd s u with siu := channelSet s.siu ch (
          { channelGet s.siu ch with state := .failed, suspect := none, suspectRun := 0, recoveryRun := 0 }) } ∧
        (NoticeRoom s → NoticeWaits .sensorState ch.node .fault (some 4) u))

/-! ### Poses -/

/-- An expiry of the pose timer publishes one pose: sequence, time, the two validity parts from the channel states
with their POSE_VALIDITY notices (R48), the rate memory, the timer reloaded, the slew travel fed (R50); and it moves
only what the pose's three users keep (R36, R47, R49, R51, R52). In the EVU the fence term is, in PARKED and WORKING,
the lowest cap of the fences in force, holds at neutral are released, the granted cap rises at neutral and only falls
elsewhere, and each monitor arms, ends or is found compliant, a late response counted and notified (R112 to R116, R122
to R126); a summary that the counted meters change forms the caps once more (R103, R114, R171). The items follow the
meters that the pose feeds, with their notices (R163, R164, R170, R171). The notices of the pose and of a late response are
stated for a queue with room and an item table that is EMPTY.
Model's choices: log 28 (the fields of a monitor that becomes IDLE). -/
def Obligations.PoseTimerPublishesAPose : Prop :=
  ∀ s : State, awake s = true → reached s.gmu.poseTimer 20 s.now = true → EventGives .poseTimer s fun u =>
    let plane := [s.siu.boomAng.state, s.siu.stickAng.state, s.siu.bucketAng.state, s.siu.upperTilt.state]
    let lost := fun st : ChState => st = .failed ∨ st = .absent
    let p := u.gmu.pose
    let term := fun f : HydFn => (capRow u f).fence
    let late := (allFns.filter fun f => poseLate s p (term f) f).length
    let travel := (p.slewRate.map fun x => x.natAbs / 50).getD 0
    let quiet := s.lnc.notices.length ≤ 4 ∧ s.svu.items = Vector.replicate 32 none
    p.seq = (if s.gmu.pose.seq = 65535 then 1 else s.gmu.pose.seq + 1) ∧
    p.time = some s.now ∧
    (p.plane = .invalid ↔ s.mdc.calStatus = .invalid ∨ ∃ st ∈ plane, lost st) ∧
    (p.plane = .held ↔ s.mdc.calStatus = .valid ∧ (∀ st ∈ plane, ¬ lost st) ∧ .stale ∈ plane) ∧
    (p.slew = .invalid ↔ lost s.siu.slewEnc.state) ∧
    (p.slew = .held ↔ s.siu.slewEnc.state = .stale) ∧
    u.gmu.rateMem = some (rateMemOf s.siu) ∧ u.gmu.poseTimer = s.gmu.poseTimer.map (· + 20) ∧
    u.gmu.grade = s.gmu.grade ∧
    (s.mdc.mode = .closing → u.plu = s.plu) ∧
    (s.mdc.mode ≠ .closing → p.plane = .invalid →
      u.plu = { s.plu with detector := .ready, samples := [], carryStart := none, carryFuel := none }) ∧
    (∀ f, (s.mdc.mode = .parked ∨ s.mdc.mode = .working → IsFenceTerm s p f (term f)) ∧
      (s.mdc.mode ≠ .parked → s.mdc.mode ≠ .working → term f = (capRow s f).fence) ∧
      (capRow u f).hold = ((capRow s f).hold && !neutral s f) ∧
      (capRow u f).computed = computedCap u f ∧
      (capRow u f).granted = min (poseGranted s (term f) f) (capRow u f).computed ∧
      (u.svu.summary = s.svu.summary → (capRow u f).computed = poseCap s (term f) f ∧
        (capRow u f).slewCreep = (capRow s f).slewCreep ∧ (capRow u f).dataLost = (capRow s f).dataLost) ∧
      (u.svu.summary ≠ s.svu.summary →
        (capRow u f).slewCreep =
          (if u.svu.summary.slewCreep ∧ (f = .slewLeft ∨ f = .slewRight) then calSlewCreep s.rts.cal else 100) ∧
        (capRow u f).dataLost = if s.evu.dataLost then calServiceCreep s.rts.cal else 100) ∧
      ((capRow u f).granted = poseGranted s (term f) f → monitorOf u f = poseMonitor s p (term f) f) ∧
      (monitorOf u f).lastResponse = (poseMonitor s p (term f) f).lastResponse ∧
      (monitorOf u f).violations = (poseMonitor s p (term f) f).violations) ∧
    (∀ m, meterGet u.svu.meters m = match m with
      | .violations => if late = 0 then s.svu.meters.violations else meterAfter s .violations late
      | .slewTravel => if p.slewRate = none then s.svu.meters.slewTravel else meterAfter s .slewTravel travel
      | .payload | .passes => meterGet u.svu.meters m
      | m => meterGet s.svu.meters m) ∧
    ((∀ t, s.plu.truck = some t → t.passes.length ≠ 11) →
      u.svu.meters.payload = s.svu.meters.payload ∧ u.svu.meters.passes = s.svu.meters.passes) ∧
    (s.plu.truck = none ∨ u.plu.truck ≠ none →
      u.svu.meters.payload = s.svu.meters.payload ∧ u.svu.meters.passes = s.svu.meters.passes ∧
      u.svu.payloadRem = s.svu.payloadRem ∧ u.svu.sums.payload = s.svu.sums.payload ∧
      u.svu.sums.passes = s.svu.sums.passes) ∧
    u.svu.slewRem = (if p.slewRate = none then s.svu.slewRem else remainderAfter s .slewTravel travel) ∧
    u.svu.fuelRem = s.svu.fuelRem ∧
    (∀ m, m ≠ .payload → m ≠ .passes → meterGet u.svu.sums m = meterGet s.svu.sums m +
      if s.svu.loaded then 0 else match m with
        | .violations => late
        | .slewTravel => travel
        | _ => 0) ∧
    MetersReach s u (fun m => if m = .violations then
      (List.range late).map fun j => meterAfter s .violations (j + 1) else []) ∧
    (quiet →
      (p.plane ≠ s.gmu.pose.plane → NoticeWaits .poseValidity 0
        (match p.plane with | .valid => .info | .held => .advise | .invalid => .warn) (some (partCode p.plane)) u) ∧
      (p.slew ≠ s.gmu.pose.slew → NoticeWaits .poseValidity 1
        (match p.slew with | .valid => .info | .held => .advise | .invalid => .warn) (some (partCode p.slew)) u) ∧
      (∀ f, poseLate s p (term f) f = true →
        NoticeWaits .responseLate (fnIndex f) .warn (some (poseResponse s f)) u)) ∧
    u = { eventEnd s u with
      gmu := u.gmu, plu := u.plu, evu.caps := u.evu.caps, evu.monitors := u.evu.monitors
      svu := { u.svu with loaded := s.svu.loaded, dayMark := s.svu.dayMark, metersLost := s.svu.metersLost
                          saveTimer := s.svu.saveTimer, reminderTimer := s.svu.reminderTimer } }

/-- The coordinates of a published pose with a plane part that is not INVALID, stage by stage over the scaled sines and
the rounding of R40, saturated, with the OVERRANGE flag (R41 to R45); none with an INVALID plane part (R46). The four
joint rates (R49): fifty times the change since the previous expiry, the slew's wrapped, valid only when the channel was
VALID or SUSPECT at both. The grade deviation and the grade floor over the target height under the tip (R55, R56). The
Payload Unit at a pose that it takes with a plane part that is not INVALID: the detector by its state (R60 to R63), the
weigh sample (R65 to R69), the pass at a dump (R70), which joins the open truck or a new one, tests the target and
closes a full truck (R71 to R73, R75 to R77). The interpolation of a table (R66). -/
def Obligations.PoseCoordinatesAndRates : Prop :=
  (∀ s : State, awake s = true → reached s.gmu.poseTimer 20 s.now = true →
     ∀ rb rs rk ru : Reading, s.siu.boomAng.accepted = some rb → s.siu.stickAng.accepted = some rs →
     s.siu.bucketAng.accepted = some rk → s.siu.upperTilt.accepted = some ru →
     EventGives .poseTimer s fun u =>
       let c := s.rts.cal
       let xp := unscale (calX0 c * scaledCos ru.v1 - calZ0 c * scaledSin ru.v1)
       let zp := unscale (calX0 c * scaledSin ru.v1 + calZ0 c * scaledCos ru.v1)
       let x1 := xp + unscale (calLb c * scaledCos rb.v1)
       let z1 := zp + unscale (calLb c * scaledSin rb.v1)
       let x3 := x1 + unscale (calLs c * scaledCos rs.v1) + unscale (calLk c * scaledCos rk.v1)
       let z3 := z1 + unscale (calLs c * scaledSin rs.v1) + unscale (calLk c * scaledSin rk.v1)
       let sat := fun v : Int => if 32767 < v then 32767 else if v < -32767 then -32767 else v
       (u.gmu.pose.plane = .invalid → u.gmu.pose.coords = none ∧ u.gmu.pose.overrange = false) ∧
       (u.gmu.pose.plane ≠ .invalid →
         u.gmu.pose.coords = some { xp := sat xp, zp := sat zp, x1 := sat x1, z1 := sat z1, x3 := sat x3, z3 := sat z3
                                    h := if sat z1 ≤ sat z3 then sat z3 else sat z1
                                    reach := sat x3, depth := sat z3 } ∧
         (u.gmu.pose.overrange = true ↔ ∃ v ∈ [xp, zp, x1, z1, x3, z3], v < -32767 ∨ 32767 < v))) ∧
  (∀ (s : State) (m : RateMem), awake s = true → reached s.gmu.poseTimer 20 s.now = true → s.gmu.rateMem = some m →
     EventGives .poseTimer s fun u =>
       let now := fun (c : ChannelRec) (v : Int) => (c.state = .valid ∨ c.state = .suspect) ∧ c.accepted.map (·.v1) = some v
       let old := fun (r : RateRead) (v : Int) => (r.state = .valid ∨ r.state = .suspect) ∧ r.value = some v
       (∀ x, u.gmu.pose.boomRate = some x ↔ ∃ a b, now s.siu.boomAng a ∧ old m.boom b ∧ x = (a - b) * 50) ∧
       (∀ x, u.gmu.pose.stickRate = some x ↔ ∃ a b, now s.siu.stickAng a ∧ old m.stick b ∧ x = (a - b) * 50) ∧
       (∀ x, u.gmu.pose.bucketRate = some x ↔ ∃ a b, now s.siu.bucketAng a ∧ old m.bucket b ∧ x = (a - b) * 50) ∧
       (∀ x, u.gmu.pose.slewRate = some x ↔
         ∃ a b, now s.siu.slewEnc a ∧ old m.slew b ∧ x = norm180 (a - b) * 50)) ∧
  (∀ s : State, awake s = true → reached s.gmu.poseTimer 20 s.now = true → EventGives .poseTimer s fun u =>
     let p := u.gmu.pose
     (s.gmu.grade = none → p.deviation = none ∧ p.gradeFloor = none) ∧
     (∀ g, s.gmu.grade = some g → p.coords = none → p.deviation = none ∧
       p.gradeFloor = if g.stop then some { limit := none, margin := g.margin } else none) ∧
     (∀ g x, s.gmu.grade = some g → p.coords = some x → ∃ q zt : Int, Rounds q (g.slope * (x.x3 - g.xRef)) 10000 ∧
       zt = max (-32767) (min 32767 (g.zRef + q)) ∧ p.deviation = some (max (-9999) (min 9999 (x.z3 - zt))) ∧
       p.gradeFloor = if g.stop then some { limit := some zt, margin := g.margin } else none)) ∧
  (∀ s : State, awake s = true → reached s.gmu.poseTimer 20 s.now = true → s.mdc.mode ≠ .closing →
     EventGives .poseTimer s fun u =>
       let p := u.gmu.pose
       let lifted := ∃ r, p.boomRate = some r ∧ 300 ≤ r
       let filled := ∃ k st, p.bucket = some k ∧ p.stick = some st ∧
         calCurl s.rts.cal ≤ (k - st + 18000) % 36000 - 18000
       let dumped := ∃ r, p.bucketRate = some r ∧ r ≤ -2000
       let lowered := ∃ r, p.boomRate = some r ∧ r ≤ -300
       let emptied := { s.plu with detector := .ready, samples := [], carryStart := none, carryFuel := none }
       p.plane ≠ .invalid →
       (s.plu.detector = .ready → lifted → filled →
         u.plu = { s.plu with detector := .carry, samples := u.plu.samples, carryStart := some s.now
                              carryFuel := some (s.svu.meters.fuel * 1000 + s.svu.fuelRem) } ∧
         Offered s p [] u.plu.samples) ∧
       (s.plu.detector = .ready → ¬ (lifted ∧ filled) → u.plu = s.plu) ∧
       (s.plu.detector = .carry → dumped → ∃ x, IsPass s ((openedTruck s).passes.length + 1) x ∧ PassJoins s x u) ∧
       (s.plu.detector = .carry → ¬ dumped → lowered → u.plu = emptied) ∧
       (s.plu.detector = .carry → ¬ dumped → ¬ lowered →
         u.plu = { s.plu with samples := u.plu.samples } ∧ Offered s p s.plu.samples u.plu.samples) ∧
       (s.plu.detector = .return → ¬ lowered → u.plu = s.plu) ∧
       (s.plu.detector = .return → lowered → u.plu = emptied)) ∧
  (∀ (v : Nat → Int) (x0 : Int) (step : Nat) (a : Int), 0 < step →
     (a ≤ x0 → interpolate v x0 step a = v 0) ∧ (x0 + 8 * step ≤ a → interpolate v x0 step a = v 8) ∧
     (∀ i : Nat, i < 8 → x0 + i * step ≤ a → a < x0 + (i + 1) * step →
       interpolate v x0 step a = v i + Int.tdiv ((v (i + 1) - v i) * (a - (x0 + i * step))) step))

/-- The POSE_REPORT timer forms the pair from the pose record as it stands, and none before the first pose (R52); the
grant refresh hands the grant's pair over again (R118) and the engine request refresh puts the slot's ENGINE_REQUEST in
link A's buffer of its engine, none for an UNUSED slot (R131, R181); the GRANT_UNCONFIRMED mark raises its condition and
notice (R120).
Model's choices: log 29 (no request of an UNUSED slot stays in the buffer). -/
def Obligations.ReportAndRefreshTimers : Prop :=
  ∀ s : State, awake s = true →
    (reached s.lnc.poseReport 100 s.now = true → EventGives .poseReportTimer s fun u =>
      u.lnc.txPose = (if s.gmu.pose.seq = 0 then s.lnc.txPose
        else [.poseReport0 s.gmu.pose, .poseReport1 s.gmu.pose]) ∧
      u = { eventEnd s u with lnc.poseReport := s.lnc.poseReport.map (· + 100) }) ∧
    (reached s.evu.refresh 100 s.now = true → EventGives .grantRefresh s fun u =>
      u.evu.refresh = some s.now ∧ u.lnc.txGrant = [.grantCaps u.evu.grant.seq u.evu.grant.caps, .grantPower u.evu.grant] ∧
      (grantContent u = s.evu.grant → u.evu.grant = s.evu.grant ∧ u.evu.outstanding = s.evu.outstanding) ∧
      u = eventEnd s u) ∧
    (∀ e, reached (slotGet s e).requestTimer 200 s.now = true → EventGives (.engineRequestRefresh e) s fun u =>
      (slotGet u e).request = requestOf u e ∧
      (match e with | .e1 => u.lnc.txReq1 | .e2 => u.lnc.txReq2) = (requestOf u e).map (TxFrame.engineRequest e) ∧
      ((slotGet u e).state ≠ .unused → (slotGet u e).requestTimer = some s.now) ∧ u = eventEnd s u) ∧
    (∀ o rest, s.evu.outstanding = o :: rest → s.evu.unconfirmed = false → o.2 + 200 ≤ s.now →
      EventGives .grantUnconfirmed s fun u =>
        u = { eventEnd s u with evu.unconfirmed := true } ∧
        (NoticeRoom s → NoticeWaits .grantUnconfirmed 0 .warn (some s.evu.grant.seq) u))

/-! ### Machine link -/

/-- A PVC_STATE in its owners (R6, R119, R120, R140, R157, R187): lockout report and mode, acknowledgement, power
average, oil temperature and warm-up limit, silence timer. The cap table and the monitors stand while the mode stands; a
change between PARKED and WORKING keeps every input term and hold (the model's choice, log 35), forms the computed caps
anew, to which a granted cap falls, and arms an IDLE monitor at a fall below its demand (R113, R115, R122). A lockout byte
that R182 does not give reports either state, a free choice (log 9). -/
def Obligations.PvcStateReachesItsOwners : Prop :=
  ∀ (demand lockout : Nat) (oil : Int) (k : Nat) (g1 g2 : Bool) (s : State), awake s = true →
    EventGives (.pvcState demand lockout oil k g1 g2) s fun u =>
      let p := min demand 4000
      let acc := s.eeu.accumulator - s.eeu.accumulator / 16 + p
      let l := if lockout = 0 then Lockout.engaged else if lockout = 1 then .released else Config.lockoutOfCode lockout
      u.mdc.mode = (if s.mdc.mode = .parked ∧ l = .released then .working
        else if s.mdc.mode = .working ∧ l = .engaged then .parked else s.mdc.mode) ∧
      (s.mdc.mode ≠ .parked → s.mdc.mode ≠ .working → u.evu.caps = s.evu.caps ∧ u.evu.monitors = s.evu.monitors) ∧
      (u.mdc.mode = s.mdc.mode → u.evu.caps = s.evu.caps ∧ u.evu.monitors = s.evu.monitors) ∧
      (u.mdc.mode ≠ s.mdc.mode → ∀ f,
        let cap := if (capRow s f).hold then 0
          else min (min (capRow s f).fence (capRow s f).slewCreep) (capRow s f).dataLost
        capRow u f = { capRow s f with computed := cap, granted := min (capRow s f).granted cap } ∧
        monitorOf u f = if (monitorOf s f).armed = false ∧ (capRow s f).hold = false ∧ cap < (capRow s f).granted ∧
            cap < demandOf s f then
          { monitorOf s f with armed := true, armTime := some s.now, armSeq := some ((s.evu.grant.seq + 1) % 256) }
          else monitorOf s f) ∧
      (u.evu.grant = s.evu.grant → u.evu.outstanding = acknowledge s.evu.outstanding k) ∧
      u.evu.unconfirmed = (s.evu.unconfirmed && !(acknowledge s.evu.outstanding k).isEmpty) ∧
      (s.mdc.lockout = .engaged → l = .released →
        s.eeu.ladder = .autoIdle ∨ s.eeu.ladder = .lowIdle ∨ s.eeu.ladder = .shutdownWarning → u.eeu.ladder = .work) ∧
      u = { eventEnd s u with
        mdc.mode := u.mdc.mode, mdc.lockout := l
        mdc.stSilence := if u.mdc.mode = s.mdc.mode then s.mdc.stSilence else none
        evu.caps := u.evu.caps, evu.monitors := u.evu.monitors, evu.unconfirmed := u.evu.unconfirmed
        eeu.accumulator := acc, eeu.average := acc / 16, eeu.pumpDemand := some p, eeu.oilTemp := some oil
        eeu.warmup := if oil < 20 then true else if 30 ≤ oil then false else s.eeu.warmup
        lnc.pvcTimer := some s.now, lnc.pvcSilent := false }

/-- What a PVC_STATE's group report does to a slot (R134): a JOINING one comes ONLINE, an ONLINE one whose group was
dropped goes to READY with its retry wait running and the GROUP_DROPPED notice, a LEAVING one cools down; a SECOND slot
then moves on by the causes standing (R136 to R144), and a slot in another state stays by the report. An ONLINE lead
whose group is dropped while the ladder stands at SHUT_DOWN outside CLOSING is left READY: the model's choice, log 23; a
second slot stays in HALT under a standing leave cause: log 22; a lead that is LEAVING cools down for its 180 s: log 36. -/
def Obligations.GroupReportsMoveTheLead : Prop :=
  ∀ (demand lockout : Nat) (oil : Int) (k : Nat) (g1 g2 : Bool) (s : State) (e : Engine), awake s = true →
    EventGives (.pvcState demand lockout oil k g1 g2) s fun u =>
      let g := match e with | .e1 => g1 | .e2 => g2
      let x := slotGet s e
      let y := slotGet u e
      let down := u.eeu.ladder = .shutDown
      let closing := u.mdc.mode = .closing
      let stays := leaveCause u = false ∨ u.mdc.mode = .halt
      (x.role = .lead →
        (x.state = .joining → g = true → ¬ down → y.state = .online) ∧
        (x.state = .online → g = false → ¬ closing → s.eeu.ladder = .shutDown ∨ ¬ down →
          y.state = .ready ∧ y.retry = some s.now) ∧
        (x.state = .leaving → g = false → ¬ closing → ¬ down → y.state = .cooldown ∧ y.timer = some s.now) ∧
        (x.state = .leaving → g = false → down → y.state = .stopping)) ∧
      (x.role = .second →
        (x.state = .joining → g = true → ¬ down → stays → y.state = .online) ∧
        (x.state = .online → g = false → y.retry = some s.now ∧
          (¬ closing → ¬ down → stays → y.state = .ready) ∧
          (¬ closing → ¬ down → ¬ stays → y.state = .cooldown ∧ y.timer = some s.now) ∧
          (closing ∨ down → y.state = .stopping ∧ y.timer = some s.now)) ∧
        (x.state = .leaving → g = false →
          (¬ closing → ¬ down → joinCondition u = false → y.state = .cooldown ∧ y.timer = some s.now) ∧
          (closing ∨ down → y.state = .stopping ∧ y.timer = some s.now) ∧
          (joinCondition u = true → secondEngine s = e → workMode u.mdc.mode = true →
            y.state = .joining ∧ y.timer = some s.now))) ∧
      (x.state = .online → g = false → NoticeRoom s → NoticeWaits .groupDropped (engineNumber e) .warn none u) ∧
      (x.state = .starting → ¬ closing → ¬ down → y.state = .starting ∧ y.timer = x.timer) ∧
      (x.state = .warming → ¬ closing → ¬ down → x.role = .lead ∨ stays → y.state = .warming) ∧
      (x.state = .stopped → x.role = .lead ∨ joinCondition u = false → y.state = .stopped) ∧
      (x.state = .stopping ∨ x.state = .faulted ∨ x.state = .unused →
        y.state = x.state ∧ y.timer = x.timer ∧ y.retry = x.retry ∧ y.cause = x.cause)

/-- A PVC_LEVERS frame (R104, R115, R116, R125, R151, R153): the lever record; at neutral the hold released and the
granted cap raised to the computed one, elsewhere only falls; a demand of 5 % clears the idle hold and brings the
ladder back. In PARKED, WORKING and SERVICE a cap that falls below the demand just received arms an IDLE monitor, no hold
having made it fall (R122); then an ARMED monitor whose demand is at or below its granted cap returns to IDLE (R124).
Model's choices: log 28, and log 38: the rise at neutral also between the clearing of FENCE_DATA_LOST and the next pose,
where R86 speaks of the next pose and R116 of a PVC_LEVERS too. -/
def Obligations.LeverFramesRaiseCapsAtNeutral : Prop :=
  ∀ (d : PerFn Nat) (s : State), awake s = true → EventGives (.pvcLevers d) s fun u =>
    (∀ f, perFnGet d f < 5 →
      (capRow u f).hold = false ∧ (capRow u f).computed = computedCap u f ∧
      (capRow u f).granted = (capRow u f).computed) ∧
    (∀ f, 5 ≤ perFnGet d f →
      (capRow u f).hold = (capRow s f).hold ∧ (capRow u f).computed = computedCap u f ∧
      (capRow u f).granted = min (capRow s f).granted (capRow u f).computed) ∧
    (∀ f, (capRow u f).fence = (capRow s f).fence ∧ (capRow u f).slewCreep = (capRow s f).slewCreep ∧
      (capRow u f).dataLost = (capRow s f).dataLost) ∧
    (∀ f,
      let m := monitorOf s f
      let demand := min 100 (perFnGet d f)
      let fallen := min (capRow s f).granted (capRow u f).computed
      let arms := (s.mdc.mode = .parked ∨ s.mdc.mode = .working ∨ s.mdc.mode = .service) ∧ m.armed = false ∧
        ((capRow u f).hold = false ∨ s.mdc.mode = .service) ∧ fallen < (capRow s f).granted ∧ fallen < demand
      ((m.armed = true ∨ arms) → demand ≤ (capRow u f).granted →
        monitorOf u f = { m with armed := false, armTime := none, armSeq := none }) ∧
      (arms → (capRow u f).granted < demand → monitorOf u f =
        { m with armed := true, armTime := some s.now, armSeq := some ((s.evu.grant.seq + 1) % 256) }) ∧
      (m.armed = true → (capRow u f).granted < demand → monitorOf u f = m) ∧
      (m.armed = false → ¬ arms → monitorOf u f = m)) ∧
    ((∃ f, 5 ≤ perFnGet d f) → s.eeu.ladder = .autoIdle ∨ s.eeu.ladder = .lowIdle ∨ s.eeu.ladder = .shutdownWarning →
      u.eeu.ladder = .work) ∧
    (s.eeu.ladder = .shutDown → u.eeu.ladder = .shutDown) ∧
    u = { eventEnd s u with
      evu.levers := { demands := some (perFnOf fun f => min 100 (perFnGet d f)), arrival := some s.now, fresh := true }
      evu.caps := u.evu.caps, evu.monitors := u.evu.monitors
      eeu.idleHold := s.eeu.idleHold && decide (∀ f ∈ allFns, perFnGet d f < 5) }

/-- An ENGINE_STATUS (R129): taken by a slot that is not UNUSED, with its silence timer restarted; FAULT faults it, with
START_FAILED from STARTING (R135); RUNNING takes a STOPPED, STARTING or WARMING slot to WARMING below 40 °C and else to
READY, from which the slot moves on by what stands (R136, R142 to R144), and changes nothing of its own in the other
states, where the slot moves by what stands alone; STOPPED and CRANKING take it to STOPPED, but
for a slot in STARTING, and a CRANKING one in STOPPING; each change with its ENGINE_SLOT notice (R133). An unknown engine
state and an UNUSED slot discard the frame. Model's choices: log 22 (in HALT no leave cause moves a second slot), 23 (a
lead READY at SHUT_DOWN stays), 26 (a speed or load above its stated range is kept as sent) and 36 (a lead in COOLDOWN). -/
def Obligations.EngineStatusTakenByItsSlot : Prop :=
  ∀ (e : Engine) (code speed : Nat) (coolant : Int) (fuel load : Nat) (noStop : Bool) (s : State), awake s = true →
    (3 < code ∨ (slotGet s e).state = .unused →
      Completes (.engineStatus e code speed coolant fuel load noStop) s (· = s)) ∧
    (∀ st, runStateOfCode code = some st → (slotGet s e).state ≠ .unused →
      EventGives (.engineStatus e code speed coolant fuel load noStop) s fun u =>
        (slotGet u e).status =
          some { state := st, speed, coolant, fuelRate := min fuel 20000, load, noStop } ∧
        (slotGet u e).silence = some s.now ∧
        (st = .fault → (slotGet u e).state = .faulted ∧ (slotGet u e).timer =
            (if (slotGet s e).state = .faulted then (slotGet s e).timer else none) ∧
          (slotGet u e).cause =
            (if (slotGet s e).state = .faulted then (slotGet s e).cause else some .faultStatus)) ∧
        (st = .stopped → (slotGet s e).role = .lead → (slotGet s e).state ≠ .starting →
          (slotGet u e).state = .stopped) ∧
        (st = .cranking → (slotGet s e).state = .stopping → (slotGet u e).state = .stopping) ∧
        (st = .running → (slotGet s e).state = .faulted → (slotGet u e).state = .faulted) ∧
        (st = .running → (slotGet s e).state = .stopped → (slotGet s e).role = .lead → s.mdc.mode ≠ .closing →
          s.eeu.ladder = .shutDown → u.eeu.ladder = .work) ∧
        (st = .running → (slotGet s e).state = .stopped → (slotGet s e).role = .lead → s.mdc.mode ≠ .closing →
          s.eeu.countdown = none → coolant < 40 → (slotGet u e).state = .warming) ∧
        (st = .running → (slotGet s e).state = .stopped → (slotGet s e).role = .lead → s.mdc.mode = .halt →
          s.eeu.countdown = none → 40 ≤ coolant → (slotGet u e).state = .ready) ∧
        (st = .running → (slotGet s e).state ∈ [.stopped, .starting, .warming] →
          (s.mdc.mode = .closing → (slotGet u e).state = .stopping) ∧
          (s.mdc.mode ≠ .closing → u.eeu.ladder ≠ .shutDown →
            (slotGet s e).role = .lead ∨ leaveCause u = false ∨ s.mdc.mode = .halt →
            (coolant < 40 → (slotGet u e).state = .warming) ∧
            (40 ≤ coolant → (slotGet u e).state = if (slotGet s e).retry = none ∧
                ((slotGet s e).role = .lead ∧ (s.mdc.mode = .parked ∨ s.mdc.mode = .working) ∨
                  (slotGet s e).role = .second ∧ workMode s.mdc.mode = true ∧ joinCondition u = true)
              then .joining else .ready)) ∧
          (s.mdc.mode ≠ .closing → u.eeu.ladder ≠ .shutDown → (slotGet s e).role = .second → leaveCause u = true →
            s.mdc.mode ≠ .halt → (slotGet u e).state = .cooldown ∧ (slotGet u e).timer = some s.now) ∧
          (u.eeu.ladder = .shutDown → (slotGet s e).role = .second → (slotGet u e).state = .stopping)) ∧
        (st = .running → (slotGet s e).state ∈ [.leaving, .stopping] → (slotGet u e).state = (slotGet s e).state) ∧
        (st = .running → (slotGet s e).state ∈ [.ready, .joining, .online, .cooldown] →
          let x := slotGet s e
          let y := slotGet u e
          let down := u.eeu.ladder = .shutDown
          let closing := s.mdc.mode = .closing
          let halt := s.mdc.mode = .halt
          let leaves := x.role = .second ∧ leaveCause u = true ∧ ¬ halt
          let joins := x.retry = none ∧ (x.role = .lead ∧ ¬ down ∧ (s.mdc.mode = .parked ∨ s.mdc.mode = .working) ∨
            x.role = .second ∧ workMode s.mdc.mode = true ∧ joinCondition u = true)
          (x.state = .ready → y.state =
            if closing ∨ (down ∧ (x.role = .second ∨ s.eeu.ladder ≠ .shutDown)) then .stopping
            else if leaves then .cooldown else if joins then .joining else .ready) ∧
          (x.state = .joining → y.state = if down ∨ leaves then .leaving else .joining) ∧
          (x.state = .online → y.state =
            if x.retry = none ∧ (leaves ∨ (down ∧ (¬ halt ∨ s.eeu.ladder ≠ .shutDown))) then .leaving else .online) ∧
          (x.state = .cooldown → y.state =
            if closing ∨ down then .stopping
            else if x.role = .second ∧ joinCondition u = true then (if joins then .joining else .ready)
            else .cooldown) ∧
          (y.state = x.state → y.timer = x.timer) ∧
          (y.state ≠ x.state → y.timer = if y.state = .ready then none else some s.now) ∧
          (y.retry = x.retry ∧ y.cause = if y.state = x.state then x.cause else none)) ∧
        (st = .stopped ∨ st = .cranking → (slotGet s e).state = .starting → s.mdc.mode ≠ .closing →
          u.eeu.ladder ≠ .shutDown → (slotGet u e).state = .starting) ∧
        (st = .stopped ∨ (st = .cranking ∧ (slotGet s e).state ≠ .stopping) → (slotGet s e).state ≠ .starting →
          (slotGet u e).state = if (slotGet s e).role = .second ∧ workMode s.mdc.mode = true ∧ joinCondition u = true
            then .starting else .stopped) ∧
        (st = .fault → (slotGet s e).state = .starting → NoticeRoom s →
          NoticeWaits .startFailed (engineNumber e) .warn none u) ∧
        ((slotGet u e).state ≠ (slotGet s e).state → NoticeRoom s → NoticeWaits .engineSlot (engineNumber e)
          (if st = .fault then .fault else .info) (some (slotCode (slotGet u e).state)) u) ∧
        u = eventEnd s u)

/-- The lever record goes STALE at its mark, its demands kept (R104); a discarded frame changes nothing, but that one
from node 7 or from the holder on link B restarts the ST silence timer of SERVICE and the token silence timer (R8,
R92, R179). -/
def Obligations.StaleLeversAndDiscardedFrames : Prop :=
  ∀ s : State, awake s = true →
    (s.evu.levers.fresh = true → reached s.evu.levers.arrival 100 s.now = true →
      EventGives .leverStalenessMark s fun u => u = { eventEnd s u with evu.levers.fresh := false }) ∧
    (∀ l kind node len, EventGives (.frameDiscarded l kind node len) s fun u =>
      u = { eventEnd s u with
        mdc.stSilence := if l = .b ∧ node = 7 ∧ s.mdc.mode = .service then some s.now else s.mdc.stSilence
        rts.token.silence := if l = .b ∧ s.rts.token.holder.map (·.who.node) = some node then some s.now
          else s.rts.token.silence })

/-- A failed response (R125, R126): one violation, the hold set, the granted cap at 0, the monitor IDLE with its last
response time kept, RESPONSE_FAIL latched when it is counted. The other caps are formed anew and only fall. The VIOLATIONS
meter or its pending sum takes the violation, and the items, the summary and the slew creep and data-lost terms follow
(R103, R114, R163, R164, R170, R171). Model's choices: log 28. -/
def Obligations.FailedResponseHoldsTheFunction : Prop :=
  ∀ (f : HydFn) (s : State), awake s = true → responseFailDue s f = true →
    EventGives (.responseFailTimeout f) s fun u =>
      (capRow u f).hold = true ∧ (capRow u f).granted = 0 ∧
      (s.mdc.mode = .parked ∨ s.mdc.mode = .working → (capRow u f).computed = 0) ∧
      monitorOf u f = { armed := false, armTime := none, armSeq := none
                        lastResponse := (monitorOf s f).lastResponse
                        violations := min 255 ((monitorOf s f).violations + 1) } ∧
      (∀ g, g ≠ f → (monitorOf u g).violations = (monitorOf s g).violations ∧ (capRow u g).hold = (capRow s g).hold) ∧
      (∀ g, TermsFollow s u g ∧ (capRow u g).fence = (capRow s g).fence ∧ (capRow u g).computed = computedCap u g ∧
        (g ≠ f → (capRow u g).granted =
            min (min (capRow s g).granted (computedCap s g)) (capRow u g).computed ∧
          ((capRow u g).granted = (capRow s g).granted → monitorOf u g = monitorOf s g) ∧
          (monitorOf u g).lastResponse = (monitorOf s g).lastResponse)) ∧
      meterGet u.svu.meters .violations = meterAfter s .violations 1 ∧
      (∀ m, m ≠ .violations → meterGet u.svu.meters m = meterGet s.svu.meters m) ∧
      MetersReach s u (fun _ => []) ∧
      u.svu.sums = (if s.svu.loaded then s.svu.sums
        else meterSet s.svu.sums .violations (s.svu.sums.violations + 1)) ∧
      (responseFailStands s = false → counted s .responseFail = true → Condition.responseFail ∈ u.lnc.latch) ∧
      u = { eventEnd s u with
        evu.caps := u.evu.caps, evu.monitors := u.evu.monitors
        svu := { u.svu with
          fuelRem := s.svu.fuelRem, payloadRem := s.svu.payloadRem, slewRem := s.svu.slewRem
          loaded := s.svu.loaded, dayMark := s.svu.dayMark, metersLost := s.svu.metersLost
          saveTimer := s.svu.saveTimer, reminderTimer := s.svu.reminderTimer } }

/-! ### Engines, ladder, feeds -/

/-- The engine marks that fault a slot (R130, R133, R135, R138): silence, start timeout, stop timeout, each with its
cause, the slot timer and retry wait stopped, the start timeout alone with START_FAILED (R135); a slot already FAULTED, or
STOPPED in CLOSING, only stops its silence timer. -/
def Obligations.EngineMarksFaultTheSlot : Prop :=
  ∀ (e : Engine) (s : State), awake s = true →
    let faultedBy := fun (i : Instr) (cause : FaultCause) (silence : Option Millis) (startFails : Bool) =>
      EventGives i s fun u =>
        (startFails = true → NoticeRoom s → NoticeWaits .startFailed (engineNumber e) .warn none u) ∧
        (startFails = false → ∀ n ∈ u.lnc.notices, n.kind = .startFailed → n ∈ s.lnc.notices) ∧
        (slotGet u e).state = .faulted ∧ (slotGet u e).cause = some cause ∧ (slotGet u e).timer = none ∧
        (slotGet u e).retry = none ∧ (slotGet u e).silence = silence ∧ (slotGet u e).status = (slotGet s e).status ∧
        (slotGet u e).role = (slotGet s e).role ∧
        (NoticeRoom s → NoticeWaits .engineSlot (engineNumber e) .fault (some 10) u) ∧
        (engineFaultStands s = false → counted s .engineFault = true → Condition.engineFault ∈ u.lnc.latch) ∧
        u = eventEnd s u
    let spared := (slotGet s e).state = .faulted ∨ ((slotGet s e).state = .stopped ∧ s.mdc.mode = .closing)
    (silenceDue s e = true → ¬ spared → faultedBy (.engineSilence e) .silent none false) ∧
    (silenceDue s e = true → spared → EventGives (.engineSilence e) s fun u =>
      (slotGet u e).state = (slotGet s e).state ∧ (slotGet u e).cause = (slotGet s e).cause ∧
      (slotGet u e).silence = none ∧ u = eventEnd s u) ∧
    (slotDue s e .starting 20000 = true → faultedBy (.startTimeout e) .startTimeout (slotGet s e).silence true) ∧
    (slotDue s e .stopping 30000 = true → faultedBy (.stopTimeout e) .stopTimeout (slotGet s e).silence false)

/-- The marks of joins, leaves, cool-downs and retry waits (R136 to R139, R143): a refused leave is ONLINE again, a
refused join READY or on its way down, both with the retry wait running; a cool-down ends in STOPPING; at the end of
the wait a lead takes the transition then standing. Model's choices: log 22, and 36 for the cool-down of a lead. -/
def Obligations.EngineOperationsEnd : Prop :=
  ∀ (e : Engine) (s : State), awake s = true →
    (slotDue s e .joining 750 = true → EventGives (.joinRefused e) s fun u =>
      (slotGet u e).state ∈ [.ready, .cooldown, .stopping] ∧ (slotGet u e).retry = some s.now ∧
      ((slotGet s e).role = .lead → s.mdc.mode ≠ .closing → s.eeu.countdown = none → (slotGet u e).state = .ready) ∧
      (NoticeRoom s → NoticeWaits .joinRefused (engineNumber e) .warn none u) ∧ u = eventEnd s u) ∧
    (slotDue s e .leaving 750 = true → EventGives (.leaveRefused e) s fun u =>
      (slotGet u e).state = .online ∧ (slotGet u e).retry = some s.now ∧ (slotGet u e).timer = none ∧
      (NoticeRoom s → NoticeWaits .leaveRefused (engineNumber e) .warn none u) ∧ u = eventEnd s u) ∧
    (slotDue s e .cooldown 180000 = true → EventGives (.cooldownEnd e) s fun u =>
      (slotGet u e).state = .stopping ∧ (slotGet u e).timer = some s.now ∧
      (slotGet u e).request.map (·.ask) = some .stop ∧ u = eventEnd s u) ∧
    (reached (slotGet s e).retry 30000 s.now = true → EventGives (.retryWaitEnd e) s fun u =>
      (slotGet u e).retry = none ∧
      ((slotGet s e).role = .lead → (slotGet s e).state = .ready →
        s.mdc.mode = .parked ∨ s.mdc.mode = .working → u.eeu.ladder ≠ .shutDown →
        (slotGet u e).state = .joining ∧ (slotGet u e).timer = some s.now) ∧
      ((slotGet s e).state = .online → s.eeu.ladder = .shutDown → s.mdc.mode ≠ .halt →
        (slotGet u e).state = .leaving) ∧ u = eventEnd s u)

/-- The hold timers at their limits (R141, R142): the join hold sends a STOPPED second engine to STARTING, the leave
hold sends an ONLINE one to LEAVING, but in HALT it stays ONLINE (R144); a hold whose test fails stops. Model's choices:
log 16, 22 and 24. -/
def Obligations.HoldTimersActOnTheSecondEngine : Prop :=
  ∀ (s : State) (t : Millis), awake s = true →
    (s.eeu.joinHold = .running t → t + 10000 ≤ s.now → EventGives .joinHoldReached s fun u =>
      (joinTerms u = true → u.eeu.joinHold = .reached t) ∧ (joinTerms u = false → u.eeu.joinHold = .stopped) ∧
      (joinTerms s = true → effectiveMode s = s.eeu.effective → leaveCondition s = false → s.eeu.countdown = none →
        s.mdc.mode = .parked ∨ s.mdc.mode = .working ∨ s.mdc.mode = .service →
        (slotGet s (secondEngine s)).role = .second → (slotGet s (secondEngine s)).state = .stopped →
        (slotGet u (secondEngine s)).state = .starting ∧ (slotGet u (secondEngine s)).timer = some s.now) ∧
      u = eventEnd s u) ∧
    (s.eeu.leaveHold = .running t → t + 60000 ≤ s.now → EventGives .leaveHoldReached s fun u =>
      (leaveTest s = true → u.eeu.leaveHold = .reached t) ∧ (leaveTest s = false → u.eeu.leaveHold = .stopped) ∧
      (∀ e, leaveTest s = true → (slotGet s e).role = .second → (slotGet s e).state = .online →
        (slotGet s e).retry = none →
        (s.mdc.mode ≠ .halt → (slotGet u e).state = .leaving ∧ (slotGet u e).timer = some s.now) ∧
        (s.mdc.mode = .halt → s.eeu.countdown = none → (slotGet u e).state = .online)) ∧
      u = eventEnd s u)

/-- The ladder's three steps down (R147, R148, R149, R154), each with its timers and its IDLE_STATE notice. -/
def Obligations.LadderStepsDown : Prop :=
  ∀ s : State, awake s = true →
    (s.eeu.ladder = .work → reached s.eeu.autoIdle (s.eeu.settings.autoIdle * 1000) s.now = true →
      EventGives .autoIdleTimeout s fun u =>
        u.eeu.ladder = .autoIdle ∧ u.eeu.autoIdle = none ∧ u.eeu.shutdownDelay = none ∧ u.eeu.countdown = none ∧
        u.eeu.lockoutTimer = (if s.mdc.lockout = .engaged ∧ s.mdc.mode ≠ .service then some s.now else none) ∧
        (NoticeRoom s → NoticeWaits .idleState 0 .info (some 1) u) ∧ u = eventEnd s u) ∧
    (s.eeu.ladder = .autoIdle → reached s.eeu.lockoutTimer 60000 s.now = true →
      EventGives .lockoutTimeout s fun u =>
        u.eeu.ladder = .lowIdle ∧ u.eeu.autoIdle = none ∧ u.eeu.lockoutTimer = none ∧
        u.eeu.shutdownDelay = some s.now ∧ u.eeu.countdown = none ∧
        (NoticeRoom s → NoticeWaits .idleState 0 .info (some 2) u) ∧ u = eventEnd s u) ∧
    (s.eeu.ladder = .lowIdle → s.mdc.mode ≠ .halt → s.eeu.settings.shutdown ≠ 0 →
      reached s.eeu.shutdownDelay (s.eeu.settings.shutdown * 60000) s.now = true →
      EventGives .shutdownDelayEnd s fun u =>
        u.eeu.ladder = .shutdownWarning ∧ u.eeu.shutdownDelay = none ∧
        u.eeu.countdown = some { since := s.now, shown := 90 } ∧
        (NoticeRoom s → NoticeWaits .idleState 0 .info (some 3) u ∧ NoticeWaits .shutdownWarning 0 .warn (some 90) u) ∧
        u = eventEnd s u)

/-- The shut-down countdown (R143, R150, R152): every ten seconds shown; at 0 a no-stop flag holds it, and without one
the ladder goes to SHUT_DOWN with the shut-down actions on both slots. A countdown held at 0 looks at the flags again at
each ENGINE_STATUS taken and each event that faults a slot: it stays held while one stands, and goes to SHUT_DOWN with the
shut-down actions in the event in which none does. Model's choices: log 27. -/
def Obligations.CountdownRunsToShutDown : Prop :=
  ∀ (s : State) (c : Countdown), awake s = true → s.eeu.countdown = some c →
    (20 ≤ c.shown → c.since + (100 - c.shown) * 1000 ≤ s.now → EventGives .countdownStep s fun u =>
      u.eeu.countdown = some { c with shown := c.shown - 10 } ∧ u.eeu.ladder = s.eeu.ladder ∧
      (NoticeRoom s → NoticeWaits .shutdownWarning 0 .warn (some (c.shown - 10)) u) ∧ u = eventEnd s u) ∧
    (c.shown ≠ 0 → c.since + 90000 ≤ s.now → noStopStands s = true → EventGives .countdownEnd s fun u =>
      u.eeu.countdown = some { c with shown := 0 } ∧ u.eeu.ladder = s.eeu.ladder ∧
      (NoticeRoom s → NoticeWaits .shutdownWarning 0 .advise (some 0) u) ∧ u = eventEnd s u) ∧
    (c.shown ≠ 0 → c.since + 90000 ≤ s.now → noStopStands s = false → s.eeu.ladder = .shutdownWarning →
      EventGives .countdownEnd s fun u =>
        u.eeu.countdown = none ∧ u.eeu.ladder = .shutDown ∧
        (∀ e, (slotGet u e).state = (match (slotGet s e).state with
          | .starting | .warming | .ready | .cooldown => .stopping
          | .joining => .leaving
          | .online => if (slotGet s e).retry = none then .leaving else .online
          | st => st)) ∧
        (NoticeRoom s → NoticeWaits .idleState 0 .warn (some 4) u ∧ NoticeWaits .shutdownWarning 0 .warn (some 0) u) ∧
        u = eventEnd s u) ∧
    (c.shown = 0 → s.eeu.ladder = .shutdownWarning →
      let ended := fun (stands : Bool) (u : State) =>
        if stands then u.eeu.ladder = .shutdownWarning ∧ u.eeu.countdown = some c
        else u.eeu.ladder = .shutDown ∧ u.eeu.countdown = none ∧
          (∀ e, (slotGet u e).state ∉ [.starting, .warming, .ready, .joining, .cooldown] ∧
            ((slotGet u e).state = .online → (slotGet u e).retry ≠ none)) ∧
          (NoticeRoom s → NoticeWaits .idleState 0 .warn (some 4) u)
      let flagOf := fun x : Slot => decide (x.state ≠ .unused ∧ x.state ≠ .faulted) &&
        x.status.any fun y => decide (y.state = .running ∧ y.noStop = true)
      ∀ e : Engine,
        let other := flagOf (match e with | .e1 => s.eeu.slot2 | .e2 => s.eeu.slot1)
        (∀ code speed coolant fuel load noStop st, runStateOfCode code = some st → (slotGet s e).state ≠ .unused →
          EventGives (.engineStatus e code speed coolant fuel load noStop) s
            (ended (other || (noStop && decide (st = .running ∧ (slotGet s e).state ≠ .faulted))))) ∧
        (silenceDue s e = true → (slotGet s e).state ≠ .faulted →
          ¬ ((slotGet s e).state = .stopped ∧ s.mdc.mode = .closing) → EventGives (.engineSilence e) s (ended other)) ∧
        (slotDue s e .starting 20000 = true → EventGives (.startTimeout e) s (ended other)) ∧
        (slotDue s e .stopping 30000 = true → EventGives (.stopTimeout e) s (ended other)))

/-- The fuel timer's expiry puts the running slots' rates into the fuel remainder and whole mL to the FUEL meter (R160);
the feed timer's a second to each running engine's meter, to PUMP_WORK at 50 kW or more from a PVC that is heard, and
the weighted second to OIL_HEAT (R161). Before loading completes the pending sums take the amounts (R164). The items follow
the meters, and the summary and the caps the items (R103, R114, R163, R170, R171). -/
def Obligations.FeedsReachTheMeters : Prop :=
  ∀ s : State, awake s = true →
    let runs := fun x : Slot =>
      decide (x.state ≠ .unused ∧ x.state ≠ .faulted ∧ x.status.map (·.state) = some .running)
    let rate := fun x : Slot => if runs x then (x.status.map (·.fuelRate * 100)).getD 0 else 0
    let sum := s.eeu.fuelRem + rate s.eeu.slot1 + rate s.eeu.slot2
    let n := sum / 36000
    let weight := match s.eeu.oilTemp with
      | some t => if t < 85 then 1 else if t < 95 then 2 else 4
      | none => 1
    let add := fun m : Meter => match m with
      | .engine1Run => if runs s.eeu.slot1 then 1 else 0
      | .engine2Run => if runs s.eeu.slot2 then 1 else 0
      | .pumpWork => if 50 ≤ s.eeu.pumpDemand.getD 0 ∧ reached s.lnc.pvcTimer 500 s.now = false then 1 else 0
      | .oilHeat => if runs s.eeu.slot1 ∨ runs s.eeu.slot2 then weight else 0
      | _ => 0
    let follows := fun u : State => MetersReach s u (fun _ => []) ∧ SummaryMovesCaps s u
    let kept := fun u : State =>
      { eventEnd s u with
        evu.caps := u.evu.caps, evu.monitors := u.evu.monitors
        svu := { u.svu with
          payloadRem := s.svu.payloadRem, slewRem := s.svu.slewRem
          loaded := s.svu.loaded, dayMark := s.svu.dayMark, metersLost := s.svu.metersLost
          saveTimer := s.svu.saveTimer, reminderTimer := s.svu.reminderTimer } }
    (reached s.eeu.fuelTimer 100 s.now = true → EventGives .fuelTimer s fun u =>
      (∀ m, meterGet u.svu.meters m = if m = .fuel ∧ n ≠ 0 then meterAfter s .fuel n else meterGet s.svu.meters m) ∧
      u.svu.fuelRem = (if n = 0 then s.svu.fuelRem else remainderAfter s .fuel n) ∧
      u.svu.sums = (if s.svu.loaded then s.svu.sums else meterSet s.svu.sums .fuel (s.svu.sums.fuel + n)) ∧
      follows u ∧ u = { kept u with eeu.fuelRem := sum % 36000, eeu.fuelTimer := s.eeu.fuelTimer.map (· + 100) }) ∧
    (reached s.eeu.feedTimer 1000 s.now = true → EventGives .feedTimer s fun u =>
      (∀ m, meterGet u.svu.meters m = if add m = 0 then meterGet s.svu.meters m else meterAfter s m (add m)) ∧
      (∀ m, meterGet u.svu.sums m = meterGet s.svu.sums m + if s.svu.loaded then 0 else add m) ∧
      follows u ∧ u = { kept u with svu.fuelRem := s.svu.fuelRem, eeu.feedTimer := s.eeu.feedTimer.map (· + 1000) })

/-! ### Service timers, clock, token silence, links, store -/

/-- The save timer asks for METERS (R165), the reminder timer reminds of every unacknowledged item that is not OK
(R172), PVC silence raises its condition, notice and latched fault (R187, R190). The reminders are stated for any number
of items for which the notice queue has room: the entries they add leave four of the 24 places for what the engine set may
raise in the same event, or the queue is not full after it (R188). -/
def Obligations.SaveReminderAndSilenceMarks : Prop :=
  ∀ s : State, awake s = true →
    (saveDue s = true → EventGives .saveTimer s fun u =>
      SaveAsked .meters u ∧ u = { eventEnd s u with svu.saveTimer := s.svu.saveTimer.map (· + 360000) }) ∧
    (reminderDue s = true → EventGives .reminderTimer s fun u =>
      let added := (allItems.filter fun k => ((itemAt s k).any fun i => i.state != .ok && !i.acked) &&
        !s.lnc.notices.any fun e => e.kind == .itemState && e.subject == k.val).length
      (s.lnc.notices.length + added ≤ 20 ∨ u.lnc.notices.length < 24 →
        ∀ k i, itemAt s k = some i → i.state ≠ .ok → i.acked = false →
          NoticeWaits .itemState k (itemSeverity i.state) (some (itemStateCode i.state)) u) ∧
      u = { eventEnd s u with svu.reminderTimer := s.svu.reminderTimer.map (· + 900000) }) ∧
    (s.mdc.mode ≠ .closing → s.lnc.pvcSilent = false → reached s.lnc.pvcTimer 500 s.now = true →
      EventGives .pvcSilent s fun u =>
        (NoticeRoom s → NoticeWaits .pvcSilent 2 .warn none u) ∧
        (counted s .pvcSilent = true → Condition.pvcSilent ∈ u.lnc.latch) ∧
        u = { eventEnd s u with lnc.pvcSilent := true })

/-- A whole second of the calendar clock (R168, R196): counted in every mode and without supply; on an awake part the
days past the day mark go to CALENDAR, or before loading to its pending sum, and the mark moves with them; the items follow
the meter, and the summary and the caps the items (R103, R114, R163, R164, R170, R171). -/
def Obligations.ClockSecondsAndDays : Prop :=
  ∀ (s : State) (t : Nat), s.clock.time = some t → t < 4294967295 → s.clock.mark + 1000 ≤ s.now →
    (awake s = false → Completes .clockSecond s fun v =>
      v = { s with clock := { time := some (t + 1), mark := s.clock.mark + 1000 } }) ∧
    (awake s = true → EventGives .clockSecond s fun u =>
      u.clock = { time := some (t + 1), mark := s.clock.mark + 1000 } ∧
      (s.svu.dayMark = none ∨ (∃ d, s.svu.dayMark = some d ∧ t + 1 < d + 86400) →
        u = { eventEnd s u with clock := u.clock }) ∧
      (∀ d, s.svu.dayMark = some d → d + 86400 ≤ t + 1 →
        u.svu.dayMark = some (d + (t + 1 - d) / 86400 * 86400) ∧
        meterGet u.svu.meters .calendar = meterAfter s .calendar ((t + 1 - d) / 86400) ∧
        (∀ m, m ≠ .calendar → meterGet u.svu.meters m = meterGet s.svu.meters m) ∧
        u.svu.sums = (if s.svu.loaded then s.svu.sums
          else meterSet s.svu.sums .calendar (s.svu.sums.calendar + (t + 1 - d) / 86400)) ∧
        MetersReach s u (fun _ => []) ∧ SummaryMovesCaps s u ∧
        u = { eventEnd s u with
          clock := u.clock, evu.caps := u.evu.caps, evu.monitors := u.evu.monitors
          svu := { u.svu with
            fuelRem := s.svu.fuelRem, payloadRem := s.svu.payloadRem, slewRem := s.svu.slewRem
            loaded := s.svu.loaded, metersLost := s.svu.metersLost
            saveTimer := s.svu.saveTimer, reminderTimer := s.svu.reminderTimer } }))

/-- A holder silent for 30 s loses the token (R91, R92): staging emptied, the first waiter the holder, or nobody;
during a commit the loss is only due. Model's choices: log 20. -/
def Obligations.SilentHolderLosesTheToken : Prop :=
  ∀ (s : State) (h : Claim), awake s = true → s.rts.token.holder = some h → s.rts.token.silenceDue = false →
    reached s.rts.token.silence 30000 s.now = true →
    (s.rts.token.commit = none → EventGives .tokenSilence s fun u =>
      u = { eventEnd s u with
        lnc.half := none
        rts.token := { holder := s.rts.token.waiting.head?, waiting := s.rts.token.waiting.tail
                       silence := s.rts.token.waiting.head?.map fun _ => s.now
                       silenceDue := false, staging := none, commit := none } } ∧
      (NoticeRoom s → NoticeWaits .tokenLost h.who.node .advise none u ∧
        ∀ w, s.rts.token.waiting.head? = some w → NoticeWaits .tokenGranted w.who.node .info none u)) ∧
    (s.rts.token.commit.isSome = true → EventGives .tokenSilence s fun u =>
      u = { eventEnd s u with rts.token.silenceDue := true })

/-- What the free controllers take (R181, R183, R185, R188): on link A the grant pair, then the requests; on link B the
head reply with its RECORD frames of five bytes, then the POSE_REPORT pair, then the head notice, 10 ms apart; a busy
controller takes nothing. A reply leaves the queue when its last frame is taken, and with it the waits of an entry to
SLEEP and of a PART_RESET count one reply fewer (R11, R14, R183). FRAME_TRANSMIT frees one link's controller, and
NOTICE_SPACING_ELAPSED changes nothing of its own: every event ends with this. -/
def Obligations.FreeControllersTakeInOrder : Prop :=
  ∀ s : State, awake s = true →
    let t := linkSettle s
    (∀ l, EventGives (.frameTransmit l) s fun u =>
      u.lnc.ctlA = (if l = .a then none else s.lnc.ctlA) ∧ u.lnc.ctlB = (if l = .b then none else s.lnc.ctlB) ∧
      u.lnc.replies = s.lnc.replies ∧ u.lnc.txPose = s.lnc.txPose ∧
      u = { eventEnd s u with lnc.ctlS := if l = .s then none else s.lnc.ctlS }) ∧
    (reached s.lnc.lastNotice 10 s.now = true → EventGives .noticeSpacingElapsed s fun u =>
      u.lnc.ctlA = s.lnc.ctlA ∧ u.lnc.ctlB = s.lnc.ctlB ∧ u.lnc.ctlS = s.lnc.ctlS ∧
      u.lnc.replies = s.lnc.replies ∧ u.lnc.txPose = s.lnc.txPose ∧ u = eventEnd s u) ∧
    (s.lnc.ctlA.isSome = true → t.lnc.ctlA = s.lnc.ctlA ∧ t.lnc.txGrant = s.lnc.txGrant ∧
      t.lnc.txReq1 = s.lnc.txReq1 ∧ t.lnc.txReq2 = s.lnc.txReq2) ∧
    (∀ f rest, s.lnc.ctlA = none → s.lnc.txGrant = f :: rest → t.lnc.ctlA = some f ∧ t.lnc.txGrant = rest ∧
      t.lnc.txReq1 = s.lnc.txReq1 ∧ t.lnc.txReq2 = s.lnc.txReq2) ∧
    (s.lnc.ctlA = none → s.lnc.txGrant = [] → t.lnc.txGrant = [] ∧ t.lnc.txReq1 = none ∧
      t.lnc.ctlA = (if s.lnc.txReq1.isSome then s.lnc.txReq1 else s.lnc.txReq2) ∧
      t.lnc.txReq2 = (if s.lnc.txReq1.isSome then s.lnc.txReq2 else none)) ∧
    (s.lnc.ctlB.isSome = true → t.lnc.ctlB = s.lnc.ctlB ∧ t.lnc.replies = s.lnc.replies ∧
      t.lnc.txPose = s.lnc.txPose ∧ t.lnc.notices = s.lnc.notices) ∧
    (∀ r rest, s.lnc.ctlB = none → s.lnc.replies = r :: rest →
      t.lnc.ctlB = some (if r.sent = 0 then .reply r.code r.result r.detail r.dest
        else .record r.dest (r.sent - 1) ((r.content.length + 4) / 5) ((r.content.drop (5 * (r.sent - 1))).take 5)) ∧
      t.lnc.replies = (if r.sent < (r.content.length + 4) / 5 then { r with sent := r.sent + 1 } :: rest else rest) ∧
      t.lnc.txPose = s.lnc.txPose ∧ t.lnc.notices = s.lnc.notices) ∧
    (∀ f rest, s.lnc.ctlB = none → s.lnc.replies = [] → s.lnc.txPose = f :: rest →
      t.lnc.ctlB = some f ∧ t.lnc.txPose = rest ∧ t.lnc.notices = s.lnc.notices) ∧
    (∀ n rest, s.lnc.ctlB = none → s.lnc.replies = [] → s.lnc.txPose = [] → s.lnc.notices = n :: rest →
      (s.lnc.lastNotice = none ∨ reached s.lnc.lastNotice 10 s.now = true →
        t.lnc.ctlB = some (.notice n) ∧ t.lnc.notices = rest ∧ t.lnc.lastNotice = some s.now) ∧
      (s.lnc.lastNotice.isSome = true → reached s.lnc.lastNotice 10 s.now = false →
        t.lnc.ctlB = none ∧ t.lnc.notices = n :: rest)) ∧
    (s.lnc.ctlB = none → s.lnc.replies = [] → s.lnc.txPose = [] → s.lnc.notices = [] →
      t.lnc.ctlB = none ∧ t.lnc.notices = []) ∧
    (s.lnc.ctlB.isSome = true ∨ s.lnc.replies = [] → t.lnc.replies = s.lnc.replies) ∧
    (s.lnc.txPose = [] → t.lnc.txPose = []) ∧
    (s.lnc.ctlB.isSome = true ∨ s.lnc.replies ≠ [] ∨ s.lnc.txPose ≠ [] ∨ s.lnc.notices = [] ∨
      (s.lnc.lastNotice.isSome = true ∧ reached s.lnc.lastNotice 10 s.now = false) →
      t.lnc.lastNotice = s.lnc.lastNotice) ∧
    (let gone := s.lnc.ctlB = none ∧ ∃ r, s.lnc.replies.head? = some r ∧ (r.content.length + 4) / 5 ≤ r.sent
     (gone → t.mdc.sleepWait = s.mdc.sleepWait.map (· - 1) ∧ t.mdc.resetWait = s.mdc.resetWait.map (· - 1)) ∧
     (¬ gone → t.mdc.sleepWait = s.mdc.sleepWait ∧ t.mdc.resetWait = s.mdc.resetWait)) ∧
    t = { s with mdc.sleepWait := t.mdc.sleepWait, mdc.resetWait := t.mdc.resetWait
                 lnc := { s.lnc with
                   ctlA := t.lnc.ctlA, txGrant := t.lnc.txGrant, txReq1 := t.lnc.txReq1, txReq2 := t.lnc.txReq2
                   ctlB := t.lnc.ctlB, replies := t.lnc.replies, txPose := t.lnc.txPose
                   notices := t.lnc.notices, lastNotice := t.lnc.lastNotice } }

/-- The end of a region write that carries no commit (R192, R194, R195, R11, R14): a completed write leaves its bank
good with its count and content, a failed one not good with STORE_ERROR raised and latched; no other bank changes; the
next write begins, in its bank under its count and formed from the live records with the subject of a commit in progress
(R100, R191); in CLOSING the last end makes SLEEP, or a pending reset, due. Model's choices: log 12, 18 and 21. -/
def Obligations.RegionWritesEnd : Prop :=
  ∀ (s : State) (w : RegionWrite), awake s = true → s.rts.inFlight = some w → w.carriesCommit = false →
    let next := fun u : State =>
      SameButBank s.store u.store (regionOf w.content) w.bank ∧
      (s.rts.pendingSave = [] → u.rts.inFlight = none ∧ u.rts.pendingSave = []) ∧
      (∀ r rest, s.rts.pendingSave = r :: rest → s.svu.loaded = true →
        u.rts.pendingSave = rest ∧ ∃ v, u.rts.inFlight = some v ∧ regionOf v.content = r ∧ v.since = s.now ∧
          some v.bank ≠ bankSource u.store r ∧ WriteFormed u v) ∧
      (s.mdc.mode = .closing → s.rts.pendingSave = [] → s.mdc.resetPending = false → s.mdc.resetWait = none →
        u.mdc.sleepWait = some s.lnc.replies.length) ∧
      (s.mdc.resetPending = true → (s.mdc.mode = .closing → s.rts.pendingSave = []) →
        u.mdc.resetPending = false ∧ u.mdc.resetWait = some s.lnc.replies.length) ∧
      (s.mdc.resetPending = true → s.mdc.mode = .closing → s.rts.pendingSave ≠ [] → u.mdc.resetPending = true)
    EventGives .regionWriteComplete s (fun u =>
      bankCheck u.store (regionOf w.content) w.bank = .good ∧
      bankCount u.store (regionOf w.content) w.bank = w.count ∧
      bankContent u.store (regionOf w.content) w.bank = w.content ∧
      bankSource u.store (regionOf w.content) = some w.bank ∧ next u ∧
      u = { eventEnd s u with
        store := u.store, mdc.resetPending := u.mdc.resetPending
        rts.failed := s.rts.failed.filter (· != regionOf w.content) }) ∧
    EventGives .regionWriteFail s (fun u =>
      bankCheck u.store (regionOf w.content) w.bank = .bad ∧
      bankSource u.store (regionOf w.content) = bankSource s.store (regionOf w.content) ∧
      regionOf w.content ∈ u.rts.failed ∧ (∀ r ∈ s.rts.failed, r ∈ u.rts.failed) ∧
      (s.rts.failed = [] → Condition.storeError ∈ u.lnc.latch) ∧
      (NoticeRoom s → NoticeWaits .storeError (regionCode (regionOf w.content)) .fault none u) ∧
      next u ∧
      u = { eventEnd s u with
        store := u.store, draws := s.draws + 1, mdc.resetPending := u.mdc.resetPending
        rts.failed := u.rts.failed })

/-! ### Commands of the masters -/

/-- A READ in every awake mode is answered ACCEPTED with the record's frame count as detail and the record's content
(R185), STATUS clearing its three flags (R189); an index or a record kind that does not exist REFUSED_RANGE. An unknown
code is answered REFUSED_RANGE, and a frame with a bad CRC sets COMMAND_CRC and nothing more (R183).
Model's choices: log 6 and 11. -/
def Obligations.ReadsAnswerTheirRecord : Prop :=
  (∀ (i : Instr) (m : Master) (s : State), commandOf i = some (m, 1) → awake s = true → s.lnc.replies.length < 8 →
    senderRefused s i = false →
    (∀ c, readContent (heardCommand m 1 s) i = some c → EventGives i s fun u =>
      u.lnc.replies = repliesWith s 1 .accepted (some (((c.length + 4) / 5 : Nat) : Int)) m c ∧
      (u.lnc.noticeOverflow = (s.lnc.noticeOverflow && decide (i ≠ .readStatus m)) ∨ 24 ≤ u.lnc.notices.length) ∧
      u = { eventEnd (heardCommand m 1 s) u with
        lnc.commandCrc := s.lnc.commandCrc && decide (i ≠ .readStatus m)
        lnc.commandDropped := s.lnc.commandDropped && decide (i ≠ .readStatus m) }) ∧
    (readContent (heardCommand m 1 s) i = none → EventGives i s fun u =>
      u.lnc.replies = repliesWith s 1 .refusedRange none m [] ∧ u = eventEnd (heardCommand m 1 s) u)) ∧
  (∀ (m : Master) (code : Nat) (s : State), CommandsTaken s → EventGives (.unknownCommand m code) s fun u =>
    u.lnc.replies = repliesWith s code .refusedRange none m [] ∧ u = eventEnd (heardCommand m code s) u) ∧
  (∀ s : State, awake s = true → EventGives .commandCrcError s fun u =>
    u = { eventEnd s u with lnc.commandCrc := true })

/-- TOKEN_REQUEST by case (R88, R89, R90): refused in CLOSING and for an unknown policy; a free token taken, the
holder's policy renewed, a waiter's policy replaced at its place, an ON_REQUEST holder preempted, and every other
requester placed in the waiting list by its priority. Model's choices: log 19 and 20. -/
def Obligations.TokenRequestsByCase : Prop :=
  ∀ (m : Master) (p : Nat) (s : State), CommandsTaken s → TokenOk s →
    let h := heardCommand m 2 s
    let c : Claim := { who := m, policy := if p = 1 then .whenDone else .onRequest }
    let taken := p = 1 ∨ p = 2
    let gives := fun (d : Nat) (x : Token) (P : State → Prop) => EventGives (.tokenRequest m p) s fun u =>
      u.lnc.replies = repliesWith s 2 .accepted (some (d : Int)) m [] ∧ P u ∧
      u = { eventEnd h u with rts.token := x, lnc.half := if x.staging = none then none else h.lnc.half }
    let refuses := fun r : ReplyResult => EventGives (.tokenRequest m p) s fun u =>
      u.lnc.replies = repliesWith s 2 r none m [] ∧ u = eventEnd h u
    let ahead := s.rts.token.waiting.filter fun w => masterRank w.who < masterRank m
    let behind := s.rts.token.waiting.filter fun w => masterRank m < masterRank w.who
    (s.mdc.mode = .closing → refuses .refusedState) ∧
    (s.mdc.mode ≠ .closing → ¬ taken → refuses .refusedRange) ∧
    (s.mdc.mode ≠ .closing → taken →
      (s.rts.token.holder = none →
        gives 0 { s.rts.token with holder := some c, silence := some s.now, silenceDue := false } fun _ => True) ∧
      (∀ x, s.rts.token.holder = some x → x.who = m →
        (x.policy = .onRequest ∨ p = 1 ∨ s.rts.token.commit.isSome = true ∨ s.rts.token.waiting = [] →
          gives 0 { s.rts.token with holder := some c, silence := some s.now } fun _ => True) ∧
        (x.policy = .whenDone → p = 2 → s.rts.token.commit = none →
          ∀ w rest, s.rts.token.waiting = w :: rest → gives 0 (passedToken s) fun u =>
            NoticeRoom s → NoticeWaits .tokenLost m.node .advise none u ∧
              NoticeWaits .tokenGranted w.who.node .info none u)) ∧
      (∀ x, s.rts.token.holder = some x → x.who ≠ m →
        (∀ l w r, s.rts.token.waiting = l ++ w :: r → w.who = m →
          gives (l.length + 1) { s.rts.token with waiting := l ++ c :: r } fun _ => True) ∧
        ((∀ w ∈ s.rts.token.waiting, w.who ≠ m) → x.policy = .onRequest → s.rts.token.commit = none →
          gives 0 { s.rts.token with
            holder := some c, silence := some s.now, silenceDue := false, staging := none } fun u =>
              NoticeRoom s → NoticeWaits .tokenLost x.who.node .advise none u) ∧
        ((∀ w ∈ s.rts.token.waiting, w.who ≠ m) → x.policy = .whenDone ∨ s.rts.token.commit.isSome = true →
          gives (ahead.length + 1) { s.rts.token with waiting := ahead ++ c :: behind } fun _ => True)))

/-- TOKEN_RELEASE (R91), ABANDON (R98) and the stage commands (R94): the token passes or is kept, a waiter leaves the
list, the live record is copied into staging; the holder's half-write goes (R184). -/
def Obligations.ReleaseAbandonAndStaging : Prop :=
  ∀ (m : Master) (s : State), CommandsTaken s →
    let h := fun code => heardCommand m code s
    let answers := fun (i : Instr) (code : Nat) (r : ReplyResult) (x : Token) (P : State → Prop) =>
      EventGives i s fun u => u.lnc.replies = repliesWith s code r none m [] ∧ P u ∧
        u = { eventEnd (h code) u with rts.token := x }
    let passes := fun (i : Instr) (code : Nat) => answers i code .accepted (passedToken s) fun u =>
      NoticeRoom s → ∀ w, s.rts.token.waiting.head? = some w → NoticeWaits .tokenGranted w.who.node .info none u
    (holds m s = true → s.rts.token.commit.isSome = true →
      answers (.tokenRelease m) 3 .refusedBusy (h 3).rts.token fun _ => True) ∧
    (MayEdit m s → passes (.tokenRelease m) 3) ∧
    (holds m s = false → (∃ w ∈ s.rts.token.waiting, w.who = m) → answers (.tokenRelease m) 3 .accepted
      { s.rts.token with waiting := s.rts.token.waiting.filter (·.who != m) } fun _ => True) ∧
    (holds m s = false → (∀ w ∈ s.rts.token.waiting, w.who ≠ m) →
      answers (.tokenRelease m) 3 .refusedToken s.rts.token fun _ => True) ∧
    (MayEdit m s →
      (holderOnRequest s = false → passes (.abandon m) 14) ∧
      (holderOnRequest s = true → answers (.abandon m) 14 .accepted
        { (h 14).rts.token with staging := none } fun _ => True) ∧
      (∀ n, answers (.stageSet m n.val) 4 .accepted
        { (h 4).rts.token with staging := some (.fenceSet n s.evu.fences.sets[n]) } fun _ => True) ∧
      (∀ n, 4 ≤ n → answers (.stageSet m n) 4 .refusedRange (h 4).rts.token fun _ => True) ∧
      (m ≠ .cdt → ∀ k : Fin 32, answers (.stageItem m k.val) 5 .accepted
        { (h 5).rts.token with staging := some (.item k ((itemAt s k).map (·.defn)) false false) } fun _ => True) ∧
      (m ≠ .cdt → ∀ k, 32 ≤ k → answers (.stageItem m k) 5 .refusedRange (h 5).rts.token fun _ => True) ∧
      (m = .st → answers (.stageCal m) 6 .accepted
        { (h 6).rts.token with staging := some (.calibration s.rts.cal) } fun _ => True))

/-- FENCE_WRITE in its two frames, FENCE_SECTOR and FENCE_CLEAR on a staged set (R95, R96, R184): the arguments
clamped, the entry written whole, an applicability sector kept or removed, and what gets REFUSED_RANGE or
REFUSED_STATE. Model's choices: log 19. -/
def Obligations.FenceEditsOnAStagedSet : Prop :=
  ∀ (m : Master) (s : State) (n : Fin 4) (x : FenceSet), CommandsTaken s → MayEdit m s →
    s.rts.token.staging = some (.fenceSet n x) →
    let h := fun code => heardCommand m code s
    let refuses := fun (i : Instr) (code : Nat) (r : ReplyResult) => EventGives i s fun u =>
      u.lnc.replies = repliesWith s code r none m [] ∧ u = eventEnd (h code) u
    let writes := fun (i : Instr) (code : Nat) (y : FenceSet) (l : List (Int × Int)) => EventGives i s fun u =>
      u.lnc.replies = repliesWith s code (clampedReply l).1 (clampedReply l).2 m [] ∧
      u = { eventEnd (h code) u with rts.token.staging := some (.fenceSet n y), lnc.half := none }
    let clamp := fun (lo hi : Int) (v : Nat) => ((v : Int), clampInt lo hi v)
    (∀ i k e w c, i < 8 → 1 ≤ k → k ≤ 4 → e ≤ 1 → EventGives (.fenceWriteFirst m i k e w c) s fun u =>
      u.lnc.replies = repliesWith s 7 .accepted none m [] ∧
      u = { eventEnd (h 7) u with
        lnc.half := some { index := i, kind := k, enabled := e == 1, margin := w, creep := c } }) ∧
    (∀ i k e w c, 8 ≤ i ∨ k = 0 ∨ 5 ≤ k ∨ 2 ≤ e → refuses (.fenceWriteFirst m i k e w c) 7 .refusedRange) ∧
    (∀ i w1 w2, 8 ≤ i → refuses (.fenceWriteSecond m i w1 w2) 8 .refusedRange) ∧
    (∀ i w1 w2, i < 8 → (∀ b, s.lnc.half = some b → b.index ≠ i) →
      refuses (.fenceWriteSecond m i w1 w2) 8 .refusedState) ∧
    (∀ (i : Fin 8) (b : HalfWrite) w1 w2, s.lnc.half = some b → b.index = i.val →
      (∀ k, planarOfCode b.kind = some k →
        let l := clampInt (-32767) 32767 (signed 2 w1)
        let w := clampInt 100 5000 b.margin
        let c := clampInt 5 50 b.creep
        writes (.fenceWriteSecond m i.val w1 w2) 8 (x.set i (some
          { shape := .planar k l (applicability x[i]), enabled := b.enabled, margin := w.toNat, creep := c.toNat }))
          [(signed 2 w1, l), (b.margin, w), (b.creep, c)]) ∧
      (b.kind = 4 →
        let a := clampInt 0 35999 w1
        let z := clampInt 0 35999 w2
        let w := clampInt 100 4500 b.margin
        let c := clampInt 5 50 b.creep
        writes (.fenceWriteSecond m i.val w1 w2) 8 (x.set i (some
          { shape := .sector ⟨a.toNat, z.toNat⟩, enabled := b.enabled, margin := w.toNat, creep := c.toNat }))
          [(w1, a), (w2, z), (b.margin, w), (b.creep, c)])) ∧
    (∀ (i : Fin 8) (f : Fence) k l a, x[i] = some { f with shape := .planar k l a } → ∀ v z : Nat,
      writes (.fenceSector m i.val 0 v z) 9 (x.set i (some { f with shape := .planar k l none })) [] ∧
      writes (.fenceSector m i.val 1 v z) 9 (x.set i (some
          { f with shape := .planar k l (some ⟨(clampInt 0 35999 v).toNat, (clampInt 0 35999 z).toNat⟩) }))
        [clamp 0 35999 v, clamp 0 35999 z]) ∧
    (∀ i form v z, 8 ≤ i ∨ 2 ≤ form ∨ (∃ j : Fin 8, j.val = i ∧ ∀ (f : Fence) k l a, x[j] ≠ some { f with shape := .planar k l a }) →
      refuses (.fenceSector m i form v z) 9 .refusedRange) ∧
    (∀ i : Fin 8, writes (.fenceClear m i.val) 10 (x.set i none) []) ∧
    (∀ i, 8 ≤ i → refuses (.fenceClear m i) 10 .refusedRange)

/-- ITEM_WRITE on a staged item, made a record first if it is EMPTY, and CAL_WRITE on the staged block (R97): one field
written, its value clamped, an unknown field or code REFUSED_RANGE. Model's choices: log 17. -/
def Obligations.ItemAndCalibrationEdits : Prop :=
  ∀ (m : Master) (s : State), CommandsTaken s → MayEdit m s →
    let h := fun code => heardCommand m code s
    let refuses := fun (i : Instr) (code : Nat) => EventGives i s fun u =>
      u.lnc.replies = repliesWith s code .refusedRange none m [] ∧ u = eventEnd (h code) u
    let writes := fun (i : Instr) (code : Nat) (y : Staged) (l : List (Int × Int)) => EventGives i s fun u =>
      u.lnc.replies = repliesWith s code (clampedReply l).1 (clampedReply l).2 m [] ∧
      u = { eventEnd (h code) u with rts.token.staging := some y }
    (∀ k content lw nw v, m ≠ .cdt → s.rts.token.staging = some (.item k content lw nw) →
      let d := content.getD { label := 0, meter := .engine1Run, interval := 1, lead := 0, grace := 0, lastDone := 0
                              nextDue := 0, restriction := .none }
      let item := fun (field : Nat) (y : ItemDef) (lw nw : Bool) (l : List (Int × Int)) =>
        writes (.itemWrite m field v) 11 (.item k (some y) lw nw) l
      let used := fun hi : Int => (clampInt 0 hi v).toNat
      let interval := (clampInt 1 10000000 v).toNat
      item 0 { d with label := used 65535 } lw nw [(v, clampInt 0 65535 v)] ∧
      (∀ x, v = meterCode x → item 1 { d with meter := x } lw nw []) ∧
      ((∀ x, v ≠ meterCode x) → refuses (.itemWrite m 1 v) 11) ∧
      item 2 { d with interval := interval, lead := min d.lead interval, grace := min d.grace interval } lw nw
        [(v, clampInt 1 10000000 v)] ∧
      item 3 { d with lead := used d.interval } lw nw [(v, clampInt 0 d.interval v)] ∧
      item 4 { d with grace := used d.interval } lw nw [(v, clampInt 0 d.interval v)] ∧
      item 5 { d with lastDone := used 99999999 } true nw [(v, clampInt 0 99999999 v)] ∧
      item 6 { d with nextDue := used 109999999 } lw true [(v, clampInt 0 109999999 v)] ∧
      (∀ r, v = restrictionCode r → item 7 { d with restriction := r } lw nw []) ∧
      ((∀ r, v ≠ restrictionCode r) → refuses (.itemWrite m 7 v) 11) ∧
      (∀ field, 8 ≤ field → refuses (.itemWrite m field v) 11) ∧
      writes (.itemWriteClear m) 11 (.item k none lw nw) []) ∧
    (∀ c field v, m = .st → s.rts.token.staging = some (.calibration c) →
      let put := fun x : Int => Staged.calibration { fields := c.fields.setIfInBounds field x }
      (∀ lo hi, calRange field = some (.range lo hi) →
        writes (.calWrite m field v) 12 (put (clampInt lo hi v)) [(v, clampInt lo hi v)]) ∧
      (∀ l, calRange field = some (.codes l) → v ∈ l → writes (.calWrite m field v) 12 (put v) []) ∧
      (∀ l, calRange field = some (.codes l) → v ∉ l → refuses (.calWrite m field v) 12) ∧
      (51 ≤ field → refuses (.calWrite m field v) 12))

/-- COMMIT by case (R99): CRC_MISMATCH with the computed CRC, REFUSED_LOCK, REFUSED_STATE for a calibration outside
PARKED and HALT; else in progress without a reply, its region asked for, and a write that begins at once carries the
subject in place of its origin (R100). Model's choices: log 18 (the state and flag that the write stores for an item, over a
live one and over an EMPTY entry). -/
def Obligations.CommitByCase : Prop :=
  ∀ (m : Master) (crc : Nat) (s : State) (x : Staged), CommandsTaken s → MayEdit m s →
    s.rts.token.staging = some x →
    let h := heardCommand m 13 s
    let locked := stagedRegion x = .fences ∧ m ≠ .st ∧ s.evu.fences.lock = true
    let misplaced := stagedRegion x = .calibration ∧ s.mdc.mode ≠ .parked ∧ s.mdc.mode ≠ .halt
    let refuses := fun (r : ReplyResult) (d : Option Int) => EventGives (.commit m crc) s fun u =>
      u.lnc.replies = repliesWith s 13 r d m [] ∧ u = eventEnd h u
    (crc ≠ (crc16 (canonicalForm x)).toNat →
      refuses .crcMismatch (some (((crc16 (canonicalForm x)).toNat : Nat) : Int))) ∧
    (crc = (crc16 (canonicalForm x)).toNat → locked → refuses .refusedLock none) ∧
    (crc = (crc16 (canonicalForm x)).toNat → misplaced → refuses .refusedState none) ∧
    (crc = (crc16 (canonicalForm x)).toNat → ¬ locked → ¬ misplaced → EventGives (.commit m crc) s fun u =>
      u.lnc.replies = s.lnc.replies ∧ SaveAsked (stagedRegion x) u ∧
      (s.rts.inFlight = none → s.rts.pendingSave = [] → s.svu.loaded = true →
        ∃ w, u.rts.inFlight = some w ∧ w.carriesCommit = true ∧ u.rts.pendingSave = [] ∧
          (∀ n e, x = .fenceSet n e → w.content = .fences { s.evu.fences with sets := s.evu.fences.sets.set n e }) ∧
          (∀ c, x = .calibration c → w.content = .calibration c) ∧
          (∀ k content lw nw, x = .item k content lw nw →
            (content = none → w.content = .items (s.svu.items.set k none)) ∧
            (∀ d i, content = some d → itemAt s k = some i →
              w.content = .items (s.svu.items.set k (some { i with
                defn := { d with lastDone := if lw then d.lastDone else i.defn.lastDone
                                 nextDue := if nw then d.nextDue else i.defn.nextDue } }))) ∧
            (∀ d, content = some d → itemAt s k = none →
              let v := meterGet s.svu.meters d.meter
              let last := if lw then d.lastDone else v
              let y := { d with lastDone := last, nextDue := if nw then d.nextDue else last + d.interval }
              w.content = .items (s.svu.items.set k (some
                { defn := y, state := itemStateAt y v, acked := false, extUsed := false, doneDate := none }))))) ∧
      u = { eventEnd h u with rts.token.commit := some { subject := x, who := m } })

/-- The write that carries a commit completes (R101, R9, R176): the origin replaced, RECORD_COMMITTED raised, the reply
sent, the token released, preempted or lost as its policy gives; a fence set of the ST clears FENCE_DATA_LOST, and a
calibration makes the status VALID and moves HALT to PARKED. A holder that is preempted or lost by silence at that end gets
its TOKEN_LOST (R89, R92). The fence terms are lowered for validity where the set is active, taken anew from 0 on the way
out of HALT, and the slew creep and data-lost terms follow their conditions and the calibration; the caps are formed anew
and the granted ones only fall (R103, R113 to R115). Beside the conditions that arise, a new fault mask latches those
standing whose bit it sets (R190). Model's choices: log 15 (the grade floor's part in the lowering), 18 and 20. -/
def Obligations.CommitTakenAtTheWriteEnd : Prop :=
  ∀ (s : State) (w : RegionWrite) (c : Commit), awake s = true → s.rts.inFlight = some w → w.carriesCommit = true →
    s.rts.token.commit = some c → HaltOk s → EventGives .regionWriteComplete s fun u =>
      let goes := ∃ h, s.rts.token.holder = some h ∧ ((h.who = c.who ∧ h.policy = .whenDone) ∨
        (h.policy = .onRequest ∧ s.rts.token.waiting ≠ []) ∨ s.rts.token.silenceDue = true)
      u.lnc.replies = repliesWith s 13 .accepted none c.who [] ∧
      bankCheck u.store (regionOf w.content) w.bank = .good ∧
      bankContent u.store (regionOf w.content) w.bank = w.content ∧
      (NoticeRoom s → NoticeWaits .recordCommitted (match c.subject with
        | .fenceSet n _ => n.val
        | .item k _ _ _ => 100 + k.val
        | .calibration _ => 200) .info none u) ∧
      (goes → u.rts.token = passedToken s ∧ u.lnc.half = none ∧ (NoticeRoom s →
        ∀ x, s.rts.token.waiting.head? = some x → NoticeWaits .tokenGranted x.who.node .info none u)) ∧
      (¬ goes → u.rts.token = { s.rts.token with commit := none } ∧ u.lnc.half = s.lnc.half) ∧
      (NoticeRoom s → ∀ h, s.rts.token.holder = some h →
        (h.policy = .onRequest ∧ s.rts.token.waiting ≠ []) ∨
          (s.rts.token.silenceDue = true ∧ ¬ (h.who = c.who ∧ h.policy = .whenDone)) →
        NoticeWaits .tokenLost h.who.node .advise none u) ∧
      (∀ k, k ∈ u.lnc.latch ↔ k ∈ s.lnc.latch ∨ (standing u k = true ∧
        ((standing s k = false ∧ counted u k = true) ∨
          ∃ x b, c.subject = .calibration x ∧ calFaultMask x ≠ calFaultMask s.rts.cal ∧ maskBit k = some b ∧
            (calFaultMask x).testBit b = true))) ∧
      (∀ f, (capRow u f).hold = (capRow s f).hold) ∧
      (∀ n e, c.subject = .fenceSet n e →
        let live := { s with evu.fences := u.evu.fences }
        let cleared := c.who = .st ∧ s.evu.dataLost = true
        let active := s.evu.fences.active = some n
        (¬ cleared → ¬ active → u.evu.caps = s.evu.caps ∧ u.evu.monitors = s.evu.monitors) ∧
        ∀ f, (capRow u f).fence = (if active then lowered live f (capRow s f).fence else (capRow s f).fence) ∧
          (¬ cleared → (capRow u f).slewCreep = (capRow s f).slewCreep ∧ (capRow u f).dataLost = (capRow s f).dataLost) ∧
          (cleared → (capRow u f).dataLost = 100 ∧ (capRow u f).slewCreep =
            if s.svu.summary.slewCreep ∧ (f = .slewLeft ∨ f = .slewRight) then calSlewCreep s.rts.cal else 100) ∧
          (cleared ∨ active → (capRow u f).computed = computedCap u f ∧
            (capRow u f).granted ≤ min (capRow s f).granted (capRow u f).computed ∧
            (¬ (cleared ∧ active) → (capRow u f).granted = min (capRow s f).granted (capRow u f).computed))) ∧
      (∀ k content lw nw, c.subject = .item k content lw nw →
        ItemNotices s u ∧
        (u.svu.summary = s.svu.summary → u.evu.caps = s.evu.caps ∧ u.evu.monitors = s.evu.monitors) ∧
        (u.svu.summary ≠ s.svu.summary → ∀ f, (capRow u f).fence = (capRow s f).fence ∧
          (capRow u f).slewCreep =
            (if u.svu.summary.slewCreep ∧ (f = .slewLeft ∨ f = .slewRight) then calSlewCreep s.rts.cal else 100) ∧
          (capRow u f).dataLost = (if s.evu.dataLost then calServiceCreep s.rts.cal else 100) ∧
          (capRow u f).computed = computedCap u f ∧
          (capRow u f).granted = min (capRow s f).granted (capRow u f).computed)) ∧
      (∀ x f, c.subject = .calibration x →
        (capRow u f).fence = (if s.mdc.mode = .halt then 0 else (capRow s f).fence) ∧
        (capRow u f).slewCreep =
          (if s.svu.summary.slewCreep ∧ (f = .slewLeft ∨ f = .slewRight) then calSlewCreep x else 100) ∧
        (capRow u f).dataLost = (if s.evu.dataLost then calServiceCreep x else 100) ∧
        (capRow u f).computed = computedCap u f ∧
        (capRow u f).granted = min (capRow s f).granted (capRow u f).computed) ∧
      (∀ n e, c.subject = .fenceSet n e →
        u.evu.fences = { s.evu.fences with sets := s.evu.fences.sets.set n e } ∧
        u.evu.dataLost = (s.evu.dataLost && decide (c.who ≠ .st)) ∧
        u = { eventEnd s u with
          store := u.store, mdc.resetPending := u.mdc.resetPending, rts.failed := s.rts.failed.filter (· != regionOf w.content)
          rts.token := u.rts.token, lnc.half := u.lnc.half
          evu.fences := u.evu.fences, evu.dataLost := u.evu.dataLost
          evu.caps := u.evu.caps, evu.monitors := u.evu.monitors }) ∧
      (∀ k content lw nw, c.subject = .item k content lw nw →
        (content = none → u.svu.items = s.svu.items.set k none) ∧
        (∀ d i, content = some d → itemAt s k = some i →
          let y := { d with lastDone := if lw then d.lastDone else i.defn.lastDone
                            nextDue := if nw then d.nextDue else i.defn.nextDue }
          let st := itemStateAt y (meterGet s.svu.meters y.meter)
          u.svu.items = s.svu.items.set k
            (some { i with defn := y, state := st, acked := i.acked && decide (i.state = st) })) ∧
        (∀ d, content = some d → itemAt s k = none →
          let v := meterGet s.svu.meters d.meter
          let last := if lw then d.lastDone else v
          let y := { d with lastDone := last, nextDue := if nw then d.nextDue else last + d.interval }
          u.svu.items = s.svu.items.set k
            (some { defn := y, state := itemStateAt y v, acked := false, extUsed := false, doneDate := none })) ∧
        u.svu.summary = summaryOf u.svu.items ∧
        u = { eventEnd s u with
          store := u.store, mdc.resetPending := u.mdc.resetPending, rts.failed := s.rts.failed.filter (· != regionOf w.content)
          rts.token := u.rts.token, lnc.half := u.lnc.half, svu.items := u.svu.items, svu.summary := u.svu.summary
          evu.caps := u.evu.caps, evu.monitors := u.evu.monitors }) ∧
      (∀ x, c.subject = .calibration x →
        u.rts.cal = x ∧ u.mdc.calStatus = .valid ∧ u.eeu.engineCount = (calField x 34).toNat ∧
        u.mdc.mode = (if s.mdc.mode = .halt then .parked else s.mdc.mode) ∧
        u = { eventEnd s u with
          store := u.store, mdc.resetPending := u.mdc.resetPending, rts.failed := s.rts.failed.filter (· != regionOf w.content)
          rts.token := u.rts.token, lnc.half := u.lnc.half, rts.cal := x, eeu.engineCount := u.eeu.engineCount
          mdc.calStatus := .valid, mdc.mode := u.mdc.mode
          mdc.stSilence := if s.mdc.mode = .halt then none else s.mdc.stSilence
          evu.caps := u.evu.caps, evu.monitors := u.evu.monitors })

/-- The write that carries a commit fails (R102, R195): no live record changes, STORE_FAILED is sent, the holder keeps
token and staging unless a preemption or a silence loss had waited for the write's end. Model's choices: log 20. -/
def Obligations.CommitFailsWithItsWrite : Prop :=
  ∀ (s : State) (w : RegionWrite) (c : Commit), awake s = true → s.rts.inFlight = some w → w.carriesCommit = true →
    s.rts.token.commit = some c → EventGives .regionWriteFail s fun u =>
      let goes := ∃ h, s.rts.token.holder = some h ∧
        ((h.policy = .onRequest ∧ s.rts.token.waiting ≠ []) ∨ s.rts.token.silenceDue = true)
      u.lnc.replies = repliesWith s 13 .storeFailed none c.who [] ∧
      bankCheck u.store (regionOf w.content) w.bank = .bad ∧ regionOf w.content ∈ u.rts.failed ∧
      (NoticeRoom s → NoticeWaits .storeError (regionCode (regionOf w.content)) .fault none u) ∧
      (goes → u.rts.token = passedToken s ∧ u.lnc.half = none ∧ (NoticeRoom s →
        (∀ x, s.rts.token.waiting.head? = some x → NoticeWaits .tokenGranted x.who.node .info none u) ∧
        ∀ x, s.rts.token.holder = some x → NoticeWaits .tokenLost x.who.node .advise none u)) ∧
      (¬ goes → u.rts.token = { s.rts.token with commit := none } ∧ u.lnc.half = s.lnc.half) ∧
      u = { eventEnd s u with
        store := u.store, draws := s.draws + 1, mdc.resetPending := u.mdc.resetPending, rts.failed := u.rts.failed
        rts.token := u.rts.token, lnc.half := u.lnc.half }

/-- SELECT_SET (R82), SELECT_SET NONE (R83), LOCK_FENCES and UNLOCK_FENCES (R84, R86): who and when is refused, the
active set and the lock, their notices and the save of FENCES; a selection lowers the fence terms for validity and no
granted cap rises by it (R114). Model's choices: log 15 and 19. -/
def Obligations.SelectionAndLock : Prop :=
  ∀ (m : Master) (s : State), CommandsTaken s →
    let h := fun code => heardCommand m code s
    let answers := fun (i : Instr) (code : Nat) (r : ReplyResult) (f : State → State) => EventGives i s fun u =>
      u.lnc.replies = repliesWith s code r none m [] ∧ u = f (eventEnd (h code) u)
    let work := s.mdc.mode = .parked ∨ s.mdc.mode = .working ∨ s.mdc.mode = .service
    (∀ n, 4 ≤ n → answers (.selectSet m n) 15 .refusedRange id) ∧
    (∀ n : Fin 4, s.evu.dataLost = true ∨ ¬ work → answers (.selectSet m n.val) 15 .refusedState id) ∧
    (∀ n : Fin 4, s.evu.dataLost = false → work →
      (s.evu.fences.active = some n → answers (.selectSet m n.val) 15 .accepted id) ∧
      (s.evu.fences.active ≠ some n → EventGives (.selectSet m n.val) s fun u =>
        u.lnc.replies = repliesWith s 15 .accepted none m [] ∧ SaveAsked .fences u ∧
        (NoticeRoom s → NoticeWaits .activeSet 0 .info (some n.val) u) ∧
        (∀ f, (capRow u f).fence = lowered { s with evu.fences.active := some n } f (capRow s f).fence ∧
          (capRow u f).slewCreep = (capRow s f).slewCreep ∧ (capRow u f).dataLost = (capRow s f).dataLost ∧
          (capRow u f).hold = (capRow s f).hold ∧ (capRow u f).computed = computedCap u f ∧
          (capRow u f).granted = min (capRow s f).granted (capRow u f).computed) ∧
        u = { eventEnd (h 15) u with
          evu.fences.active := some n, evu.caps := u.evu.caps, evu.monitors := u.evu.monitors })) ∧
    (s.mdc.mode ≠ .parked ∨ (s.evu.dataLost = true ∧ m ≠ .st) → answers (.selectSetNone m) 15 .refusedState id) ∧
    (s.mdc.mode = .parked → s.evu.dataLost = false ∨ m = .st → EventGives (.selectSetNone m) s fun u =>
      u.lnc.replies = repliesWith s 15 .accepted none m [] ∧
      (s.evu.fences.active.isSome = true ∨ s.evu.dataLost = true → SaveAsked .fences u) ∧
      (s.evu.fences.active.isSome = true → NoticeRoom s → NoticeWaits .activeSet 0 .info (some 4) u) ∧
      (∀ f, (capRow u f).granted ≤ (capRow s f).granted) ∧
      (s.evu.fences.active = none → s.evu.dataLost = false → u.evu.caps = s.evu.caps ∧ u.evu.monitors = s.evu.monitors) ∧
      u = { eventEnd (h 15) u with
        evu.fences.active := none, evu.dataLost := false, evu.caps := u.evu.caps, evu.monitors := u.evu.monitors }) ∧
    (m = .st → ∀ on : Bool,
      let i := if on then Instr.lockFences m else .unlockFences m
      let code := if on then 16 else 17
      (on = false → s.evu.dataLost = true → answers i code .refusedState id) ∧
      (on = true ∨ s.evu.dataLost = false → EventGives i s fun u =>
        u.lnc.replies = repliesWith s code .accepted none m [] ∧
        (s.evu.fences.lock ≠ on → SaveAsked .fences u ∧
          (NoticeRoom s → NoticeWaits .fenceLock 0 .info (some (if on then 1 else 0)) u)) ∧
        u = { eventEnd (h code) u with evu.fences.lock := on }))

/-- ENTER_SERVICE (R7), EXIT_SERVICE and the ST silence timeout (R8): the mode by the lockout report on the way out,
the caps at the service creep cap inside and from the computed caps outside (R113, R114). Model's choices: log 15. -/
def Obligations.ServiceModeEnteredAndLeft : Prop :=
  ∀ (m : Master) (s : State), m = .st →
    let out : PartMode := if s.mdc.lockout = .released then .working else .parked
    let leaves := fun (x u : State) =>
      u.mdc.mode = out ∧
      (NoticeRoom s → NoticeWaits .modeChange 0 .info (some (modeCode out)) u) ∧
      (∀ f, (capRow u f).fence = lowered s f (capRow s f).computed ∧ (capRow u f).hold = (capRow s f).hold ∧
        (capRow u f).computed = computedCap u f ∧
        (capRow u f).granted = min (capRow s f).granted (capRow u f).computed) ∧
      u = { eventEnd x u with
        mdc.mode := out, mdc.stSilence := none, evu.caps := u.evu.caps, evu.monitors := u.evu.monitors }
    (CommandsTaken s → s.mdc.mode ≠ .parked → EventGives (.enterService m) s fun u =>
      u.lnc.replies = repliesWith s 18 .refusedState none m [] ∧ u = eventEnd (heardCommand m 18 s) u) ∧
    (CommandsTaken s → s.mdc.mode = .parked → EventGives (.enterService m) s fun u =>
      u.lnc.replies = repliesWith s 18 .accepted none m [] ∧
      (NoticeRoom s → NoticeWaits .modeChange 0 .info (some 3) u) ∧
      (∀ f, (capRow u f).computed = calServiceCreep s.rts.cal ∧
        (capRow u f).granted = min (capRow s f).granted (calServiceCreep s.rts.cal) ∧
        (capRow u f).hold = (capRow s f).hold ∧ (capRow u f).fence = (capRow s f).fence) ∧
      (s.eeu.ladder = .lowIdle ∨ s.eeu.ladder = .shutdownWarning → u.eeu.ladder = .autoIdle) ∧
      u = { eventEnd (heardCommand m 18 s) u with
        mdc.mode := .service, mdc.stSilence := some s.now, evu.caps := u.evu.caps, evu.monitors := u.evu.monitors }) ∧
    (CommandsTaken s → s.mdc.mode ≠ .service → EventGives (.exitService m) s fun u =>
      u.lnc.replies = repliesWith s 19 .refusedState none m [] ∧ u = eventEnd (heardCommand m 19 s) u) ∧
    (CommandsTaken s → s.mdc.mode = .service → EventGives (.exitService m) s fun u =>
      u.lnc.replies = repliesWith s 19 .accepted none m [] ∧ leaves (heardCommand m 19 s) u) ∧
    (awake s = true → s.mdc.mode = .service → reached s.mdc.stSilence 30000 s.now = true →
      EventGives .stSilenceTimeout s fun u => leaves s u)

/-- The ST's restarts and clears (R14, R15, R16): PART_RESET waits for a write in flight and for the replies,
ENGINE_RESET gives each slot the state of its latest status and the ladder WORK, CLEAR_VIOLATIONS zeroes the counts,
CLEAR_FAULTS (of the CDT too) removes the latched faults whose condition is gone. After ENGINE_RESET a running second
engine is WARMING or READY, or in COOLDOWN where a leave cause stands, but in HALT none acts. Model's choices: log 21 and
22. -/
def Obligations.RestartsAndClears : Prop :=
  ∀ (m : Master) (s : State), CommandsTaken s →
    let h := fun code => heardCommand m code s
    (m = .st → EventGives (.partReset m) s fun u =>
      let asked := s.mdc.resetPending = true ∨ s.mdc.resetWait.isSome = true
      u.lnc.replies = repliesWith s 20 .accepted none m [] ∧
      (asked → u = eventEnd (h 20) u ∧ u.mdc.resetWait = s.mdc.resetWait) ∧
      (¬ asked → s.rts.inFlight.isSome = true → u.mdc.resetWait = none ∧
        u = { eventEnd (h 20) u with mdc.resetPending := true }) ∧
      (¬ asked → s.rts.inFlight = none → u.mdc.resetWait = some (s.lnc.replies.length + 1) ∧
        u.mdc.sleepWait = none ∧ u = eventEnd (h 20) u)) ∧
    (m = .st → s.mdc.mode = .closing → EventGives (.engineReset m) s fun u =>
      u.lnc.replies = repliesWith s 21 .refusedState none m [] ∧ u = eventEnd (h 21) u) ∧
    (m = .st → s.mdc.mode ≠ .closing → EventGives (.engineReset m) s fun u =>
      u.lnc.replies = repliesWith s 21 .accepted none m [] ∧ u.eeu.ladder = .work ∧ u.eeu.shutdownDelay = none ∧
      u.eeu.countdown = none ∧
      (∀ e, (slotGet s e).state = .unused → (slotGet u e).state = .unused) ∧
      (∀ e, (slotGet s e).state ≠ .unused →
        let x := slotGet s e
        let y := slotGet u e
        let running := fun c : Int => x.status.any fun st => decide (st.state = .running ∧ (c ≤ st.coolant))
        let silent := x.state = .faulted ∧ x.cause = some .silent
        y.retry = none ∧ y.silence = some s.now ∧ y.status = x.status ∧ y.role = x.role ∧
        (silent → y.state = .faulted ∧ y.cause = some .silent) ∧
        (¬ silent → x.status.map (·.state) = some .fault → y.state = .faulted) ∧
        (¬ silent → x.role = .lead → x.status = none ∨ x.status.map (·.state) = some .stopped ∨
          x.status.map (·.state) = some .cranking → y.state = .stopped) ∧
        (¬ silent → x.role = .lead → x.status.map (·.state) = some .running → running 40 = false → y.state = .warming) ∧
        (¬ silent → x.role = .lead → running 40 = true →
          y.state = if s.mdc.mode = .parked ∨ s.mdc.mode = .working then .joining else .ready) ∧
        (¬ silent → x.role = .second →
          let leaves := leaveCause u = true ∧ s.mdc.mode ≠ .halt
          (x.status = none ∨ x.status.map (·.state) = some .stopped ∨ x.status.map (·.state) = some .cranking →
            y.state = .stopped) ∧
          (x.status.map (·.state) = some .running →
            (leaves → y.state = .cooldown ∧ y.timer = some s.now) ∧
            (¬ leaves → y.state = if running 40 = true then .ready else .warming)))) ∧
      u = { eventEnd (h 21) u with eeu.idleHold := false }) ∧
    (m = .st → EventGives (.clearViolations m) s fun u =>
      u.lnc.replies = repliesWith s 22 .accepted none m [] ∧ SaveAsked .meters u ∧
      u = { eventEnd (h 22) u with
        evu.monitors := perFnOf fun f => { perFnGet s.evu.monitors f with violations := 0 } }) ∧
    (m ≠ .tg → EventGives (.clearFaults m) s fun u =>
      u.lnc.replies =
        repliesWith s 23 .accepted (some (((s.lnc.latch.filter (standing s)).length : Nat) : Int)) m [] ∧
      (∀ c, c ∈ u.lnc.latch ↔ c ∈ s.lnc.latch ∧ standing s c = true) ∧ u = eventEnd (h 23) u)

/-- The CDT's grade, truck and idle-hold commands (R53, R54, R75 to R77, R153): arguments clamped, stop and margin kept
or at their first values, the open truck closed into the list and the meters, the ladder back at WORK. SET_GRADE_STOP
with no target is REFUSED_STATE also where its stop is out of range, an order that R54 leaves open: the model's choice,
log 19. The TRUCK_CLOSED notice is stated for an item table that is EMPTY, whose meters raise no ITEM_STATE notices. -/
def Obligations.GradeTruckAndIdleHold : Prop :=
  ∀ s : State, CommandsTaken s →
    let h := fun code => heardCommand .cdt code s
    let answers := fun (i : Instr) (code : Nat) (r : ReplyResult × Option Int) (f : State → State) =>
      EventGives i s fun u => u.lnc.replies = repliesWith s code r.1 r.2 .cdt [] ∧ u = f (eventEnd (h code) u)
    (∀ z l x, answers (.setGrade .cdt z l x) 24
      (clampedReply [(z, clampInt (-32767) 32767 z), (l, clampInt (-10000) 10000 l), (x, clampInt (-32767) 32767 x)])
      fun u => { u with gmu.grade := some (
        { zRef := clampInt (-32767) 32767 z, slope := clampInt (-10000) 10000 l, xRef := clampInt (-32767) 32767 x
          stop := (s.gmu.grade.map (·.stop)).getD false, margin := (s.gmu.grade.map (·.margin)).getD 300 }) }) ∧
    (∀ stop w, s.gmu.grade = none → answers (.setGradeStop .cdt stop w) 25 (.refusedState, none) id) ∧
    (∀ stop w g, s.gmu.grade = some g →
      (2 ≤ stop → answers (.setGradeStop .cdt stop w) 25 (.refusedRange, none) id) ∧
      (stop ≤ 1 → answers (.setGradeStop .cdt stop w) 25 (clampedReply [((w : Int), clampInt 100 1000 w)])
        fun u => { u with gmu.grade := some (
          { g with stop := decide (stop = 1), margin := (clampInt 100 1000 w).toNat }) })) ∧
    answers (.clearGrade .cdt) 26 (.accepted, none) (fun u => { u with gmu.grade := none }) ∧
    (s.plu.truck = none → answers (.truckDone .cdt) 27 (.refusedState, none) id) ∧
    (∀ t, s.plu.truck = some t → EventGives (.truckDone .cdt) s fun u =>
      u.lnc.replies = repliesWith s 27 .accepted (some (t.number : Int)) .cdt [] ∧ SaveAsked .trucks u ∧
      (NoticeRoom s → s.svu.items = Vector.replicate 32 none →
        NoticeWaits .truckClosed t.number (if t.overload then .warn else .info) (some t.total) u) ∧
      meterGet u.svu.meters .payload = meterAfter s .payload t.total ∧
      u.svu.payloadRem = remainderAfter s .payload t.total ∧
      meterGet u.svu.meters .passes = meterAfter s .passes t.passes.length ∧
      (∀ x, x ≠ .payload → x ≠ .passes → meterGet u.svu.meters x = meterGet s.svu.meters x) ∧
      (∀ x, meterGet u.svu.sums x = meterGet s.svu.sums x + if s.svu.loaded then 0 else match x with
        | .payload => t.total
        | .passes => t.passes.length
        | _ => 0) ∧
      MetersReach s u (fun _ => []) ∧ SummaryMovesCaps s u ∧
      u = { eventEnd (h 27) u with
        plu := { s.plu with truck := none, completed := joinSummary s.plu.completed (summaryOfTruck t s.clock.time) }
        evu.caps := u.evu.caps, evu.monitors := u.evu.monitors
        svu := { u.svu with
          fuelRem := s.svu.fuelRem, slewRem := s.svu.slewRem, loaded := s.svu.loaded, dayMark := s.svu.dayMark
          metersLost := s.svu.metersLost, saveTimer := s.svu.saveTimer, reminderTimer := s.svu.reminderTimer } }) ∧
    (s.mdc.mode = .closing → answers (.idleHold .cdt) 36 (.refusedState, none) id) ∧
    (s.mdc.mode ≠ .closing → EventGives (.idleHold .cdt) s fun u =>
      u.lnc.replies = repliesWith s 36 .accepted none .cdt [] ∧ u.eeu.autoIdle = none ∧
      (s.eeu.idleHold = false → s.eeu.ladder = .autoIdle ∨ s.eeu.ladder = .lowIdle ∨ s.eeu.ladder = .shutdownWarning →
        u.eeu.ladder = .work) ∧
      u = { eventEnd (h 36) u with eeu.idleHold := true })

/-- SELECT_MODE, SET_IDLE and SET_TRUCK_TARGET of the CDT (R186): clamped, live at once, SETTINGS asked for by a change
alone; the effective mode follows (R158), and an open truck takes a changed target (R74). -/
def Obligations.SettingsLiveAtOnce : Prop :=
  ∀ s : State, CommandsTaken s →
    let h := fun code => heardCommand .cdt code s
    let sets := fun (i : Instr) (code : Nat) (x : Settings) (l : List (Int × Int)) => EventGives i s fun u =>
      u.lnc.replies = repliesWith s code (clampedReply l).1 (clampedReply l).2 .cdt [] ∧
      (x ≠ s.eeu.settings → SaveAsked .settings u) ∧
      (x = s.eeu.settings → ∀ r ∈ u.rts.pendingSave, r ∈ s.rts.pendingSave) ∧
      u.eeu.effective = effectiveMode u ∧
      u = { eventEnd (h code) u with
        eeu.settings := x
        plu.truck := if x.truckTarget = s.eeu.settings.truckTarget then s.plu.truck
          else s.plu.truck.map fun t =>
            { t with target := if x.truckTarget = 0 then none else some x.truckTarget } }
    let delay := fun d : Nat => if d = 0 then (0 : Int) else clampInt 5 60 d
    (∀ p, p ≠ .warmup → sets (.selectMode .cdt (powerRank p)) 33 { s.eeu.settings with mode := p } []) ∧
    (∀ code, code = 0 ∨ 4 ≤ code → EventGives (.selectMode .cdt code) s fun u =>
      u.lnc.replies = repliesWith s 33 .refusedRange none .cdt [] ∧ u = eventEnd (h 33) u) ∧
    (∀ a d : Nat, sets (.setIdle .cdt a d) 34
      { s.eeu.settings with autoIdle := (clampInt 2 30 a).toNat, shutdown := (delay d).toNat }
      [((a : Int), clampInt 2 30 a), ((d : Int), delay d)]) ∧
    (∀ kg : Nat, sets (.setTruckTarget .cdt kg) 35
      { s.eeu.settings with truckTarget := (clampInt 0 200000 kg).toNat } [((kg : Int), clampInt 0 200000 kg)])

/-- ACK_ITEM, SERVICE_DONE and EXTEND_ITEM (R173, R174, R175): refused for an index that does not exist, an EMPTY
entry, an item that is OK or an extension spent; the item's fields and its state by R170, ITEMS asked for. -/
def Obligations.ItemCommands : Prop :=
  ∀ (m : Master) (s : State), CommandsTaken s →
    let h := fun code => heardCommand m code s
    let refuses := fun (i : Instr) (code : Nat) (r : ReplyResult) => EventGives i s fun u =>
      u.lnc.replies = repliesWith s code r none m [] ∧ u = eventEnd (h code) u
    let edits := fun (i : Instr) (code : Nat) (k : Fin 32) (y : Item) => EventGives i s fun u =>
      let st := itemStateAt y.defn (meterGet s.svu.meters y.defn.meter)
      u.lnc.replies = repliesWith s code .accepted (some ((itemStateCode st : Nat) : Int)) m [] ∧ SaveAsked .items u ∧
      u.svu.summary = summaryOf u.svu.items ∧ ItemNotices s u ∧ SummaryMovesCaps s u ∧
      u = { eventEnd (h code) u with
        svu.items := s.svu.items.set k (some { y with state := st, acked := y.acked && decide (st = y.state) })
        svu.summary := u.svu.summary, evu.caps := u.evu.caps, evu.monitors := u.evu.monitors }
    let serves := m ≠ .cdt ∨ calField s.rts.cal 50 = 1
    (∀ k, 32 ≤ k → (m = .cdt → refuses (.ackItem m k) 28 .refusedRange) ∧
      (serves → refuses (.serviceDone m k) 29 .refusedRange) ∧ (m = .st → refuses (.extendItem m k) 30 .refusedRange)) ∧
    (∀ k : Fin 32, itemAt s k = none → (m = .cdt → refuses (.ackItem m k.val) 28 .refusedState) ∧
      (serves → refuses (.serviceDone m k.val) 29 .refusedState) ∧
      (m = .st → refuses (.extendItem m k.val) 30 .refusedState)) ∧
    (∀ (k : Fin 32) (i : Item), itemAt s k = some i →
      (m = .cdt → i.state = .ok → refuses (.ackItem m k.val) 28 .refusedState) ∧
      (m = .cdt → i.state ≠ .ok → EventGives (.ackItem m k.val) s fun u =>
        u.lnc.replies = repliesWith s 28 .accepted (some ((itemStateCode i.state : Nat) : Int)) m [] ∧
        SaveAsked .items u ∧
        u = { eventEnd (h 28) u with svu.items := s.svu.items.set k (some { i with acked := true }) }) ∧
      (serves → edits (.serviceDone m k.val) 29 k
        { i with defn := { i.defn with lastDone := meterGet s.svu.meters i.defn.meter
                                       nextDue := meterGet s.svu.meters i.defn.meter + i.defn.interval }
                 acked := false, extUsed := false, doneDate := s.clock.time }) ∧
      (m = .st → i.extUsed = true → refuses (.extendItem m k.val) 30 .refusedState) ∧
      (m = .st → i.extUsed = false → edits (.extendItem m k.val) 30 k
        { i with defn := { i.defn with nextDue := min 109999999 (i.defn.nextDue + i.defn.interval / 4) }
                 extUsed := true }))

/-- METER_WRITE of the ST (R166, R167): the meter at the value, at most 99,999,999, its remainder 0, METERS_LOST clear;
SET_CLOCK of the ST or the TG (R168, R196): the clock and the day mark at the value. Both ask for METERS.
Model's choices: log 2. -/
def Obligations.MeterWriteAndSetClock : Prop :=
  ∀ (m : Master) (s : State), CommandsTaken s →
    (m = .st → ∀ code v, 10 ≤ code → EventGives (.meterWrite m code v) s fun u =>
      u.lnc.replies = repliesWith s 31 .refusedRange none m [] ∧ u = eventEnd (heardCommand m 31 s) u) ∧
    (m = .st → ∀ (x : Meter) (v : Nat), EventGives (.meterWrite m (meterCode x) v) s fun u =>
      u.lnc.replies = (if v ≤ 99999999 then repliesWith s 31 .accepted none m []
        else repliesWith s 31 .acceptedClamped (some 65535) m []) ∧
      SaveAsked .meters u ∧ u.svu.meters = meterSet s.svu.meters x (min 99999999 v) ∧
      u.svu.summary = (if meterGet s.svu.meters x = min 99999999 v then s.svu.summary else summaryOf u.svu.items) ∧
      (∀ k, u.svu.items[k] = (itemAt s k).map fun i =>
        if i.defn.meter = x ∧ meterGet s.svu.meters x ≠ min 99999999 v then
          let st := itemStateAt i.defn (min 99999999 v)
          { i with state := st, acked := i.acked && decide (i.state = st) }
        else i) ∧
      ItemNotices s u ∧ SummaryMovesCaps s u ∧
      u = { eventEnd (heardCommand m 31 s) u with
        evu.caps := u.evu.caps, evu.monitors := u.evu.monitors
        svu := { eventEnd s u with
          svu.meters := u.svu.meters, svu.items := u.svu.items, svu.summary := u.svu.summary, svu.metersLost := false
          svu.fuelRem := if x = Meter.fuel then 0 else s.svu.fuelRem
          svu.payloadRem := if x = Meter.payload then 0 else s.svu.payloadRem
          svu.slewRem := if x = Meter.slewTravel then 0 else s.svu.slewRem }.svu }) ∧
    (m ≠ .cdt → ∀ t, EventGives (.setClock m t) s fun u =>
      u.lnc.replies = repliesWith s 32 .accepted none m [] ∧ SaveAsked .meters u ∧
      u = { eventEnd (heardCommand m 32 s) u with clock := { time := some t, mark := s.now }, svu.dayMark := some t })

/-! ### Rules of arithmetic -/

/-- A product divided by 16384 is rounded to the nearest integer, a half going away from zero, the sign of a negative
product restored; and every term of the stages is rounded on its own, over exact sums (R40). -/
def Obligations.UnscaleRoundsHalvesAwayFromZero : Prop :=
  (∀ p : Int,
    (0 ≤ p → unscale p = (p + 8192) / 16384 ∧
      2 * 16384 * unscale p ≤ 2 * p + 16384 ∧ 2 * p + 16384 < 2 * 16384 * (unscale p + 1)) ∧
    unscale (-p) = -unscale p) ∧
  unscale 8192 = 1 ∧ unscale (-8192) = -1 ∧ unscale 8191 = 0 ∧
  ∀ (c : Calibration) (b st k p : Int), rawCoords c b st k p =
    let xp := unscale (calX0 c * scaledCos p - calZ0 c * scaledSin p)
    let zp := unscale (calX0 c * scaledSin p + calZ0 c * scaledCos p)
    let x1 := xp + unscale (calLb c * scaledCos b)
    let z1 := zp + unscale (calLb c * scaledSin b)
    { xp, zp, x1, z1
      x3 := x1 + unscale (calLs c * scaledCos st) + unscale (calLk c * scaledCos k)
      z3 := z1 + unscale (calLs c * scaledSin st) + unscale (calLk c * scaledSin k) }

/-- The cap at a distance (R106): 0 at or below zero, 100 from the margin on, between them the creep cap plus the
floored share of what is left, from C to 99, C itself at a distance of 1, rising by steps of at most one percent. A
planar fence gives it to its restricted functions, a SECTOR from outside to the two slew functions at the distances of
R107, and a guarded approach the same toward its applicability sector with a margin of 1,500 cd (R109). Inside a SECTOR
the slew toward the nearer edge creeps, to the left on a tie, and the other is held (R108); a guarded fence inside its
applicability sector acts as an unguarded one, and beyond its limit holds the slew as a SECTOR does (R109). With a needed
validity part INVALID a fence gives its creep cap to its restricted functions and 100 to the others (R110). -/
def Obligations.CapGrowsWithTheDistance : Prop :=
  ∀ (d : Int) (w c : Nat), 100 ≤ w → 5 ≤ c → c ≤ 50 →
    (d ≤ 0 → capAt d w c = 0) ∧
    ((w : Int) ≤ d → capAt d w c = 100) ∧
    (0 < d → d < w → c ≤ capAt d w c ∧ capAt d w c ≤ 99 ∧ (capAt d w c - c : Int) * w ≤ (100 - c) * d ∧
      (100 - c) * d < (capAt d w c - c + 1 : Int) * w) ∧
    capAt 1 w c = c ∧
    (∀ e, d ≤ e → capAt d w c ≤ capAt e w c) ∧ (0 < d → capAt (d + 1) w c ≤ capAt d w c + 1) ∧
    (∀ (fe : Fence) (k : PlanarKind) (l : Int) (p : Pose) (x : Coords) (f : HydFn),
      fe.shape = .planar k l none → fe.margin = w → fe.creep = c → p.plane ≠ .invalid → p.coords = some x →
      fenceCap fe p f = if restricts k f then capAt (planarDistance k l x) w c else 100) ∧
    (∀ (fe : Fence) (r : Sector) (p : Pose) (sigma : Int),
      fe.shape = .sector r → fe.margin = w → fe.creep = c → p.slew ≠ .invalid → p.sigma = some sigma →
      inSector sigma r = false →
      fenceCap fe p .slewLeft = capAt (mod360 ((r.first : Int) - sigma)) w c ∧
      fenceCap fe p .slewRight = capAt (mod360 (sigma - r.last)) w c) ∧
    (∀ (fe : Fence) (k : PlanarKind) (l : Int) (r : Sector) (p : Pose) (x : Coords) (sigma : Int),
      fe.shape = .planar k l (some r) → fe.margin = w → fe.creep = c → p.plane ≠ .invalid → p.slew ≠ .invalid →
      p.coords = some x → p.sigma = some sigma → inSector sigma r = false → planarDistance k l x < w →
      fenceCap fe p .slewLeft = capAt (mod360 ((r.first : Int) - sigma)) 1500 c ∧
      fenceCap fe p .slewRight = capAt (mod360 (sigma - r.last)) 1500 c) ∧
    (∀ (r : Sector) (sigma : Int), inSector sigma r = true ↔
      (sigma - r.first) % 36000 < ((r.last : Int) - r.first) % 36000) ∧
    (∀ (fe : Fence) (p : Pose) (f : HydFn), fe.margin = w → fe.creep = c →
      let slews := f = .slewLeft ∨ f = .slewRight
      let held := fun (r : Sector) (sigma : Int) =>
        let left := ((r.last : Int) - sigma) % 36000 ≤ (sigma - r.first) % 36000
        if f = .slewLeft then (if left then c else 0) else (if left then 0 else c)
      (∀ (r : Sector) (sigma : Int), fe.shape = .sector r → p.slew ≠ .invalid → p.sigma = some sigma →
        (¬ slews → fenceCap fe p f = 100) ∧
        (slews → inSector sigma r = true → fenceCap fe p f = held r sigma)) ∧
      (∀ (k : PlanarKind) (l : Int) (r : Sector) (x : Coords) (sigma : Int), fe.shape = .planar k l (some r) →
        p.plane ≠ .invalid → p.slew ≠ .invalid → p.coords = some x → p.sigma = some sigma →
        let d := planarDistance k l x
        (inSector sigma r = true → 0 < d → fenceCap fe p f = if restricts k f then capAt d w c else 100) ∧
        (inSector sigma r = true → d ≤ 0 →
          fenceCap fe p f = if restricts k f then 0 else if f = .slewLeft ∨ f = .slewRight then held r sigma else 100) ∧
        (inSector sigma r = false → (w : Int) ≤ d → fenceCap fe p f = 100) ∧
        (inSector sigma r = false → d < w → ¬ slews → fenceCap fe p f = 100)) ∧
      (∀ (k : PlanarKind) (l : Int), fe.shape = .planar k l none → p.plane = .invalid →
        fenceCap fe p f = if restricts k f then c else 100) ∧
      (∀ (k : PlanarKind) (l : Int) (r : Sector), fe.shape = .planar k l (some r) →
        p.plane = .invalid ∨ p.slew = .invalid → fenceCap fe p f = if restricts k f then c else 100) ∧
      (∀ r : Sector, fe.shape = .sector r → p.slew = .invalid → (slews → fenceCap fe p f = c) ∧
        (¬ slews → fenceCap fe p f = 100)))

/-! ### Invariants and encoding -/

/-- Every step keeps the cap table formed (R113, R115), and a part in HALT only while the calibration status is INVALID
(R5, R9). -/
def Obligations.StepKeepsTheCapTableFormed : Prop :=
  ∀ s t : State, step s = .next t → (CapsFormed s → CapsFormed t) ∧ (HaltOk s → HaltOk t)

/-- Every step keeps the grant record current and the outstanding list a run of consecutive sequences that ends at the
latest grant (R117, R118, R119), and of an awake part the economy: the effective power mode (R158), the pump power limit
that its factor gives the ONLINE slots (R159) and each slot's request with its speed setpoint (R131, R155). That the mode
is WARMUP in START whatever the oil is the model's choice, log 37. The ladder stands at SHUTDOWN_WARNING exactly while a
countdown is set, held at 0 only while a no-stop flag stands (R150). -/
def Obligations.StepKeepsTheGrantRecord : Prop :=
  ∀ s t : State, step s = .next t → (GrantCurrent s → GrantCurrent t) ∧ (GrantListOk s → GrantListOk t) ∧
    (EconomyCurrent s → EconomyCurrent t) ∧ (LadderOk s → LadderOk t)

/-- Every step keeps the notice queue (R188), the pending-save set (R194) and the token record (R87, R93, R184) in
form, and a write that begins in it is in its bank under its count, formed from the live records with the subject of a
commit in progress (R100, R191, R192, R194). Model's choices: log 18 (a committed item as its write stores it). -/
def Obligations.StepKeepsTheQueuesAndTheToken : Prop :=
  ∀ s t : State, step s = .next t →
    (NoticesOk s → NoticesOk t) ∧ (SavesOk s → SavesOk t) ∧ (TokenOk s → TokenOk t) ∧
    ∀ w, t.rts.inFlight = some w → s.rts.inFlight ≠ some w → WriteFormed t w

/-- The state right after reset meets the invariants. Model's choices: log 4 (State.reset). -/
def Obligations.ResetMeetsTheInvariants : Prop :=
  CapsFormed State.reset ∧ HaltOk State.reset ∧ GrantCurrent State.reset ∧ GrantListOk State.reset ∧
  NoticesOk State.reset ∧ SavesOk State.reset ∧ TokenOk State.reset ∧ EconomyCurrent State.reset ∧
  LadderOk State.reset

/-- The frame that a partner sends for a well-formed command is read back as that command (R179, R182, R183). A frame that
the part sends carries the identifier of its kind and node 1, and at the places of R182's table its fields, most
significant byte first, a signed one in two's complement, codes by R182's tables; a value or detail that no rule states,
and the coordinates of a pose without any, are open. Model's choices: log 10, 11 and 31. -/
def Obligations.FramesReadBack : Prop :=
  (∀ (i : Instr) (l : Link) (id : Nat) (d : List Byte), i.wellFormed = true → encodeFrame i = some (l, id, d) →
    decodeFrame l id d = i) ∧
  (∀ f : TxFrame,
    let field := fun from_ n : Nat => beNat ((f.bytes.drop from_).take n)
    let signedAt := fun (from_ : Nat) (v : Int) => -32768 ≤ v → v ≤ 32767 → beInt ((f.bytes.drop from_).take 2) = v
    let framed := fun kind length : Nat => f.identifier = kind * 16 + 1 ∧ f.bytes.length = length
    let parts := fun plane slew : Part => partCode plane + 4 * partCode slew
    let flags := fun p : Pose =>
      parts p.plane p.slew + (if p.overrange then 16 else 0) + (if p.coords = none then 0 else 32)
    match f with
    | .grantCaps seq caps => framed 2 8 ∧ field 0 1 = seq % 256 ∧
      ∀ g, perFnGet caps g < 128 → field 1 7 / 128 ^ (7 - fnIndex g) % 128 = perFnGet caps g
    | .grantPower g => framed 3 8 ∧ field 0 1 = g.seq % 256 ∧ field 1 2 = g.limit % 65536 ∧
      field 3 1 = (if g.group1 then 1 else 0) + (if g.group2 then 2 else 0) ∧ field 4 1 = powerRank g.power ∧
      field 5 1 = modeCode g.mode ∧ field 6 1 = parts g.plane g.slew ∧ field 7 1 = 0
    | .engineRequest e r => framed 6 4 ∧ field 0 1 = engineNumber e ∧
      field 1 1 = (match r.ask with
        | .none => 0
        | .start => 1
        | .stop => 2) ∧
      field 2 2 = r.speed % 65536
    | .poseReport0 p => framed 20 8 ∧ field 0 1 = p.seq % 128 ∧
      (∀ c, p.coords = some c → signedAt 1 c.x3 ∧ signedAt 3 c.z3 ∧ signedAt 5 c.h) ∧ field 7 1 = flags p
    | .poseReport1 p => framed 20 8 ∧ field 0 1 = 128 + p.seq % 128 ∧
      (p.deviation = none → field 1 2 = 0x8000) ∧ (∀ d, p.deviation = some d → signedAt 1 d) ∧
      (p.sigma = none → field 3 2 = 0xFFFF) ∧
      (∀ a : Nat, p.sigma = some (a : Int) → a < 36000 → field 3 2 = a) ∧ field 5 2 = 0 ∧ field 7 1 = flags p
    | .notice n => framed 24 8 ∧ field 0 1 = 4 * noticeCode n.kind + severityCode n.severity ∧
      field 1 2 = n.subject % 65536 ∧ (∀ v, n.value = some v → field 3 3 = min 16777215 v) ∧
      field 6 2 = (match n.stamp with
        | some t => t % 86400 / 2
        | none => 0xFFFF)
    | .reply code result detail dest => framed 41 5 ∧ field 0 1 = code % 256 ∧ field 1 1 = resultCode result ∧
      (∀ d : Nat, detail = some (d : Int) → field 2 2 = min d 65535) ∧
      (∀ d, detail = some d → d < 0 → signedAt 2 d) ∧ field 4 1 = dest.node
    | .record dest index count content => f.identifier = 42 * 16 + 1 ∧
      (content.length ≤ 5 → f.bytes.length = 8) ∧ field 0 1 = dest.node ∧ field 1 1 = index % 256 ∧
      field 2 1 = count % 256 ∧ (f.bytes.drop 3).take content.length = content) ∧
  [PartMode.start, .parked, .working, .service, .halt, .closing, .sleep].map modeCode = List.range 7 ∧
  [PowerMode.warmup, .economy, .standard, .peak].map powerRank = List.range 4 ∧
  [Part.valid, .held, .invalid].map partCode = [1, 2, 3] ∧
  [Severity.info, .advise, .warn, .fault].map severityCode = List.range 4 ∧
  [ReplyResult.accepted, .acceptedClamped, .refusedState, .refusedRole, .refusedToken, .refusedLock, .refusedRange,
    .refusedBusy, .crcMismatch, .storeFailed].map resultCode = List.range 10 ∧
  [NoticeKind.modeChange, .sensorState, .poseValidity, .passWeighed, .targetReached, .lastPass, .truckClosed, .activeSet,
    .fenceLock, .fenceDataLost, .tokenLost, .tokenGranted, .recordCommitted, .grantUnconfirmed, .responseLate,
    .responseFail, .engineSlot, .startFailed, .joinRefused, .leaveRefused, .groupDropped, .idleState, .shutdownWarning,
    .powerMode, .itemState, .restriction, .metersLost, .itemsLost, .pvcSilent, .storeError].map noticeCode =
    List.range' 1 30
end

