-- ==== Sys2Proof/Laws/State.lean ====
section
/-! SUPPORT. The small lemmas of the fixed families of values and of the slots: what reading after an update gives,
one lemma per field, so that later proofs unfold no record update. -/

namespace Sys2Proof.Laws

open Sys2Proof Sys2Proof.Machine

/-! ### Families over the functions -/

@[simp] theorem perFnGet_perFnOf {α : Type} (g : HydFn → α) (f : HydFn) : perFnGet (perFnOf g) f = g f := by
  cases f <;> rfl

@[simp] theorem perFnOf_perFnGet {α : Type} (p : PerFn α) : perFnOf (perFnGet p) = p := rfl

@[simp] theorem perFnGet_perFnSet {α : Type} (p : PerFn α) (f g : HydFn) (a : α) :
    perFnGet (perFnSet p f a) g = if g = f then a else perFnGet p g := by
  simp [perFnSet]

/-- Two families that agree at every function are equal. -/
theorem perFn_ext {α : Type} {p q : PerFn α} (h : ∀ f, perFnGet p f = perFnGet q f) : p = q := by
  rw [← perFnOf_perFnGet p, ← perFnOf_perFnGet q]
  exact congrArg perFnOf (funext h)

@[simp] theorem mem_allFns (f : HydFn) : f ∈ allFns := by cases f <;> decide

/-- A value is in the listing exactly when some function has it. -/
theorem mem_perFnList {α : Type} (p : PerFn α) (a : α) : a ∈ perFnList p ↔ ∃ f, perFnGet p f = a := by
  simp [perFnList]

/-! ### Meters -/

@[simp] theorem meterGet_meterSet (p : PerMeter) (m k : Meter) (v : Nat) :
    meterGet (meterSet p m v) k = if k = m then v else meterGet p k := by
  cases m <;> cases k <;> rfl

@[simp] theorem meterGet_zero (m : Meter) : meterGet .zero m = 0 := by cases m <;> rfl

@[simp] theorem mem_allMeters (m : Meter) : m ∈ allMeters := by cases m <;> decide

@[simp] theorem meterOfCode_meterCode (m : Meter) : meterOfCode (meterCode m) = some m := by cases m <;> rfl

/-! ### Channels -/

@[simp] theorem channelGet_channelSet (t : ChannelTable) (ch k : Channel) (r : ChannelRec) :
    channelGet (channelSet t ch r) k = if k = ch then r else channelGet t k := by
  cases ch <;> cases k <;> rfl

@[simp] theorem channelGet_reset (ch : Channel) : channelGet .reset ch = .reset := by cases ch <;> rfl

/-! ### Slots -/

@[simp] theorem slotGet_slotSet (e k : Engine) (x : Slot) (s : State) :
    slotGet (slotSet e x s) k = if k = e then x else slotGet s k := by
  cases e <;> cases k <;> rfl

/-- Setting a slot changes the two slots and nothing else. -/
@[simp] theorem slotSet_frame (e : Engine) (x : Slot) (s : State) :
    (slotSet e x s).pending = s.pending ∧ (slotSet e x s).now = s.now ∧ (slotSet e x s).draws = s.draws ∧
    (slotSet e x s).power = s.power ∧ (slotSet e x s).clock = s.clock ∧ (slotSet e x s).store = s.store ∧
    (slotSet e x s).mdc = s.mdc ∧ (slotSet e x s).siu = s.siu ∧ (slotSet e x s).gmu = s.gmu ∧
    (slotSet e x s).plu = s.plu ∧ (slotSet e x s).evu = s.evu ∧ (slotSet e x s).eeu.engineCount = s.eeu.engineCount ∧
    (slotSet e x s).eeu.accumulator = s.eeu.accumulator ∧ (slotSet e x s).eeu.average = s.eeu.average ∧
    (slotSet e x s).eeu.joinHold = s.eeu.joinHold ∧ (slotSet e x s).eeu.leaveHold = s.eeu.leaveHold ∧
    (slotSet e x s).eeu.ladder = s.eeu.ladder ∧ (slotSet e x s).eeu.autoIdle = s.eeu.autoIdle ∧
    (slotSet e x s).eeu.lockoutTimer = s.eeu.lockoutTimer ∧ (slotSet e x s).eeu.shutdownDelay = s.eeu.shutdownDelay ∧
    (slotSet e x s).eeu.countdown = s.eeu.countdown ∧ (slotSet e x s).eeu.idleHold = s.eeu.idleHold ∧
    (slotSet e x s).eeu.pumpDemand = s.eeu.pumpDemand ∧ (slotSet e x s).eeu.oilTemp = s.eeu.oilTemp ∧
    (slotSet e x s).eeu.warmup = s.eeu.warmup ∧ (slotSet e x s).eeu.effective = s.eeu.effective ∧
    (slotSet e x s).eeu.limit = s.eeu.limit ∧ (slotSet e x s).eeu.fuelRem = s.eeu.fuelRem ∧
    (slotSet e x s).eeu.fuelTimer = s.eeu.fuelTimer ∧ (slotSet e x s).eeu.feedTimer = s.eeu.feedTimer ∧
    (slotSet e x s).eeu.settings = s.eeu.settings ∧ (slotSet e x s).svu = s.svu ∧ (slotSet e x s).rts = s.rts ∧
    (slotSet e x s).lnc = s.lnc := by
  cases e <;> simp [slotSet]

@[simp] theorem slotSet_slot1 (e : Engine) (x : Slot) (s : State) :
    (slotSet e x s).eeu.slot1 = if e = .e1 then x else s.eeu.slot1 := by
  cases e <;> rfl

@[simp] theorem slotSet_slot2 (e : Engine) (x : Slot) (s : State) :
    (slotSet e x s).eeu.slot2 = if e = .e2 then x else s.eeu.slot2 := by
  cases e <;> rfl

@[simp] theorem slotGet_e1 (s : State) : slotGet s .e1 = s.eeu.slot1 := rfl

@[simp] theorem slotGet_e2 (s : State) : slotGet s .e2 = s.eeu.slot2 := rfl

/-! ### Items and banks -/

@[simp] theorem itemAt_setItem (k j : Fin 32) (i : Option Item) (s : State) :
    itemAt (setItem k i s) j = if j = k then i else itemAt s j := by
  unfold itemAt setItem
  by_cases h : j = k
  · simp [h]
  · have : (k : Nat) ≠ j := fun e => h (Fin.ext e.symm)
    simp [h, this]

@[simp] theorem bankGet_bankSet {α : Type} (b : Banks α) (i j : BankId) (x : Bank α) :
    bankGet (bankSet b i x) j = if j = i then x else bankGet b j := by
  cases i <;> cases j <;> rfl

@[simp] theorem bankSet_source {α : Type} (b : Banks α) (i : BankId) (x : Bank α) :
    (bankSet b i x).source = b.source := by
  cases i <;> rfl

@[simp] theorem otherBank_ne (i : BankId) : otherBank i ≠ i := by cases i <;> decide

@[simp] theorem otherEngine_ne (e : Engine) : otherEngine e ≠ e := by cases e <;> decide

end Sys2Proof.Laws
end

