-- ==== Sys2Proof/Laws/Ops.lean ====
section
/-! SUPPORT. What the shared operations of the links, the notices, the latch and the sensor table change, one lemma each. -/

namespace Sys2Proof.Laws

open Sys2Proof Sys2Proof.Machine

/-- Raising a notice changes the notice queue and its overflow mark only (R188). -/
@[simp] theorem notify_frame (k : NoticeKind) (n : Nat) (v : Severity) (x : Option Nat) (s : State) :
    (notify k n v x s).pending = s.pending ∧ (notify k n v x s).now = s.now ∧ (notify k n v x s).draws = s.draws ∧
    (notify k n v x s).power = s.power ∧ (notify k n v x s).clock = s.clock ∧ (notify k n v x s).store = s.store ∧
    (notify k n v x s).mdc = s.mdc ∧ (notify k n v x s).siu = s.siu ∧ (notify k n v x s).gmu = s.gmu ∧
    (notify k n v x s).plu = s.plu ∧ (notify k n v x s).evu = s.evu ∧ (notify k n v x s).eeu = s.eeu ∧
    (notify k n v x s).svu = s.svu ∧ (notify k n v x s).rts = s.rts ∧ (notify k n v x s).lnc.ctlA = s.lnc.ctlA ∧
    (notify k n v x s).lnc.ctlB = s.lnc.ctlB ∧ (notify k n v x s).lnc.ctlS = s.lnc.ctlS ∧
    (notify k n v x s).lnc.rateA = s.lnc.rateA ∧ (notify k n v x s).lnc.rateB = s.lnc.rateB ∧
    (notify k n v x s).lnc.rateS = s.lnc.rateS ∧ (notify k n v x s).lnc.txGrant = s.lnc.txGrant ∧
    (notify k n v x s).lnc.txReq1 = s.lnc.txReq1 ∧ (notify k n v x s).lnc.txReq2 = s.lnc.txReq2 ∧
    (notify k n v x s).lnc.txPose = s.lnc.txPose ∧ (notify k n v x s).lnc.replies = s.lnc.replies ∧
    (notify k n v x s).lnc.half = s.lnc.half ∧ (notify k n v x s).lnc.lastNotice = s.lnc.lastNotice ∧
    (notify k n v x s).lnc.pvcTimer = s.lnc.pvcTimer ∧ (notify k n v x s).lnc.pvcSilent = s.lnc.pvcSilent ∧
    (notify k n v x s).lnc.poseReport = s.lnc.poseReport ∧ (notify k n v x s).lnc.latch = s.lnc.latch ∧
    (notify k n v x s).lnc.commandCrc = s.lnc.commandCrc ∧
    (notify k n v x s).lnc.commandDropped = s.lnc.commandDropped := by
  simp [notify]

/-- A save request changes the pending-save set, and takes back a SLEEP that was due (R194, R11). -/
@[simp] theorem askSave_frame (r : Region) (s : State) :
    (askSave r s).pending = s.pending ∧ (askSave r s).now = s.now ∧ (askSave r s).draws = s.draws ∧
    (askSave r s).power = s.power ∧ (askSave r s).clock = s.clock ∧ (askSave r s).store = s.store ∧
    (askSave r s).mdc.mode = s.mdc.mode ∧ (askSave r s).mdc.cause = s.mdc.cause ∧
    (askSave r s).mdc.keyState = s.mdc.keyState ∧ (askSave r s).mdc.lockout = s.mdc.lockout ∧
    (askSave r s).mdc.calStatus = s.mdc.calStatus ∧ (askSave r s).mdc.stSilence = s.mdc.stSilence ∧
    (askSave r s).mdc.resetPending = s.mdc.resetPending ∧ (askSave r s).mdc.resetWait = s.mdc.resetWait ∧
    (askSave r s).siu = s.siu ∧ (askSave r s).gmu = s.gmu ∧ (askSave r s).plu = s.plu ∧ (askSave r s).evu = s.evu ∧
    (askSave r s).eeu = s.eeu ∧ (askSave r s).svu = s.svu ∧ (askSave r s).rts.cal = s.rts.cal ∧
    (askSave r s).rts.inFlight = s.rts.inFlight ∧ (askSave r s).rts.failed = s.rts.failed ∧
    (askSave r s).rts.token = s.rts.token ∧ (askSave r s).lnc = s.lnc := by
  simp only [askSave]
  (repeat' split) <;> simp

/-- A frame heard on link B restarts two silence timers only (R8, R92). -/
@[simp] theorem heardOnB_frame (n : Nat) (s : State) :
    (heardOnB n s).pending = s.pending ∧ (heardOnB n s).now = s.now ∧ (heardOnB n s).draws = s.draws ∧
    (heardOnB n s).power = s.power ∧ (heardOnB n s).clock = s.clock ∧ (heardOnB n s).store = s.store ∧
    (heardOnB n s).mdc.mode = s.mdc.mode ∧ (heardOnB n s).mdc.cause = s.mdc.cause ∧
    (heardOnB n s).mdc.keyState = s.mdc.keyState ∧ (heardOnB n s).mdc.lockout = s.mdc.lockout ∧
    (heardOnB n s).mdc.calStatus = s.mdc.calStatus ∧ (heardOnB n s).mdc.resetPending = s.mdc.resetPending ∧
    (heardOnB n s).mdc.sleepWait = s.mdc.sleepWait ∧ (heardOnB n s).mdc.resetWait = s.mdc.resetWait ∧
    (heardOnB n s).siu = s.siu ∧ (heardOnB n s).gmu = s.gmu ∧ (heardOnB n s).plu = s.plu ∧
    (heardOnB n s).evu = s.evu ∧ (heardOnB n s).eeu = s.eeu ∧ (heardOnB n s).svu = s.svu ∧
    (heardOnB n s).rts.cal = s.rts.cal ∧ (heardOnB n s).rts.pendingSave = s.rts.pendingSave ∧
    (heardOnB n s).rts.inFlight = s.rts.inFlight ∧ (heardOnB n s).rts.failed = s.rts.failed ∧
    (heardOnB n s).lnc = s.lnc := by
  unfold heardOnB
  by_cases h : n = 7 ∧ s.mdc.mode = .service <;> simp only [h, if_false] <;>
    cases hh : s.rts.token.holder <;> simp <;> (repeat' split) <;> simp_all

@[simp] theorem heardOnB_token (n : Nat) (s : State) :
    (heardOnB n s).rts.token.holder = s.rts.token.holder ∧ (heardOnB n s).rts.token.waiting = s.rts.token.waiting ∧
    (heardOnB n s).rts.token.staging = s.rts.token.staging ∧ (heardOnB n s).rts.token.commit = s.rts.token.commit ∧
    (heardOnB n s).rts.token.silenceDue = s.rts.token.silenceDue := by
  unfold heardOnB
  by_cases h : n = 7 ∧ s.mdc.mode = .service <;> simp only [h, if_false] <;>
    cases hh : s.rts.token.holder <;> simp <;> (repeat' split) <;> simp_all

/-- A reply placed changes the reply queue only (R183). -/
@[simp] theorem placeReply_frame (code : Nat) (a : Answer) (m : Master) (c : List Byte) (s : State) :
    (placeReply code a m c s).pending = s.pending ∧ (placeReply code a m c s).now = s.now ∧
    (placeReply code a m c s).draws = s.draws ∧ (placeReply code a m c s).power = s.power ∧
    (placeReply code a m c s).clock = s.clock ∧ (placeReply code a m c s).store = s.store ∧
    (placeReply code a m c s).mdc = s.mdc ∧ (placeReply code a m c s).siu = s.siu ∧
    (placeReply code a m c s).gmu = s.gmu ∧ (placeReply code a m c s).plu = s.plu ∧
    (placeReply code a m c s).evu = s.evu ∧ (placeReply code a m c s).eeu = s.eeu ∧
    (placeReply code a m c s).svu = s.svu ∧ (placeReply code a m c s).rts = s.rts ∧
    (placeReply code a m c s).lnc.ctlA = s.lnc.ctlA ∧ (placeReply code a m c s).lnc.ctlB = s.lnc.ctlB ∧
    (placeReply code a m c s).lnc.ctlS = s.lnc.ctlS ∧ (placeReply code a m c s).lnc.rateA = s.lnc.rateA ∧
    (placeReply code a m c s).lnc.rateB = s.lnc.rateB ∧ (placeReply code a m c s).lnc.rateS = s.lnc.rateS ∧
    (placeReply code a m c s).lnc.txGrant = s.lnc.txGrant ∧ (placeReply code a m c s).lnc.txReq1 = s.lnc.txReq1 ∧
    (placeReply code a m c s).lnc.txReq2 = s.lnc.txReq2 ∧ (placeReply code a m c s).lnc.txPose = s.lnc.txPose ∧
    (placeReply code a m c s).lnc.half = s.lnc.half ∧ (placeReply code a m c s).lnc.notices = s.lnc.notices ∧
    (placeReply code a m c s).lnc.lastNotice = s.lnc.lastNotice ∧
    (placeReply code a m c s).lnc.pvcTimer = s.lnc.pvcTimer ∧
    (placeReply code a m c s).lnc.pvcSilent = s.lnc.pvcSilent ∧
    (placeReply code a m c s).lnc.poseReport = s.lnc.poseReport ∧ (placeReply code a m c s).lnc.latch = s.lnc.latch ∧
    (placeReply code a m c s).lnc.commandCrc = s.lnc.commandCrc ∧
    (placeReply code a m c s).lnc.commandDropped = s.lnc.commandDropped ∧
    (placeReply code a m c s).lnc.noticeOverflow = s.lnc.noticeOverflow := by
  simp [placeReply]

@[simp] theorem placeReply_replies (code : Nat) (a : Answer) (m : Master) (c : List Byte) (s : State) :
    (placeReply code a m c s).lnc.replies = s.lnc.replies ++
      [{ code, result := a.result, detail := a.detail, dest := m, content := c, sent := 0 }] := rfl

/-- Link A's controller takes from link A's buffers only (R181). -/
@[simp] theorem settleA_frame (s : State) :
    (settleA s).pending = s.pending ∧ (settleA s).now = s.now ∧ (settleA s).draws = s.draws ∧
    (settleA s).power = s.power ∧ (settleA s).clock = s.clock ∧ (settleA s).store = s.store ∧
    (settleA s).mdc = s.mdc ∧ (settleA s).siu = s.siu ∧ (settleA s).gmu = s.gmu ∧ (settleA s).plu = s.plu ∧
    (settleA s).evu = s.evu ∧ (settleA s).eeu = s.eeu ∧ (settleA s).svu = s.svu ∧ (settleA s).rts = s.rts ∧
    (settleA s).lnc.ctlB = s.lnc.ctlB ∧ (settleA s).lnc.ctlS = s.lnc.ctlS ∧ (settleA s).lnc.rateA = s.lnc.rateA ∧
    (settleA s).lnc.rateB = s.lnc.rateB ∧ (settleA s).lnc.rateS = s.lnc.rateS ∧
    (settleA s).lnc.txPose = s.lnc.txPose ∧ (settleA s).lnc.replies = s.lnc.replies ∧
    (settleA s).lnc.half = s.lnc.half ∧ (settleA s).lnc.notices = s.lnc.notices ∧
    (settleA s).lnc.lastNotice = s.lnc.lastNotice ∧ (settleA s).lnc.pvcTimer = s.lnc.pvcTimer ∧
    (settleA s).lnc.pvcSilent = s.lnc.pvcSilent ∧ (settleA s).lnc.poseReport = s.lnc.poseReport ∧
    (settleA s).lnc.latch = s.lnc.latch ∧ (settleA s).lnc.commandCrc = s.lnc.commandCrc ∧
    (settleA s).lnc.commandDropped = s.lnc.commandDropped ∧
    (settleA s).lnc.noticeOverflow = s.lnc.noticeOverflow := by
  simp only [settleA]
  (repeat' split) <;> simp

/-- A reply gone counts down the two waits for replies (R11, R14). -/
@[simp] theorem replyGone_frame (s : State) :
    (replyGone s).pending = s.pending ∧ (replyGone s).now = s.now ∧ (replyGone s).draws = s.draws ∧
    (replyGone s).power = s.power ∧ (replyGone s).clock = s.clock ∧ (replyGone s).store = s.store ∧
    (replyGone s).mdc.mode = s.mdc.mode ∧ (replyGone s).mdc.cause = s.mdc.cause ∧
    (replyGone s).mdc.keyState = s.mdc.keyState ∧ (replyGone s).mdc.lockout = s.mdc.lockout ∧
    (replyGone s).mdc.calStatus = s.mdc.calStatus ∧ (replyGone s).mdc.stSilence = s.mdc.stSilence ∧
    (replyGone s).mdc.resetPending = s.mdc.resetPending ∧ (replyGone s).siu = s.siu ∧ (replyGone s).gmu = s.gmu ∧
    (replyGone s).plu = s.plu ∧ (replyGone s).evu = s.evu ∧ (replyGone s).eeu = s.eeu ∧ (replyGone s).svu = s.svu ∧
    (replyGone s).rts = s.rts ∧ (replyGone s).lnc = s.lnc := by
  simp [replyGone]

/-- Link B's controller takes from link B's queues only (R181). -/
@[simp] theorem settleB_frame (s : State) :
    (settleB s).pending = s.pending ∧ (settleB s).now = s.now ∧ (settleB s).draws = s.draws ∧
    (settleB s).power = s.power ∧ (settleB s).clock = s.clock ∧ (settleB s).store = s.store ∧
    (settleB s).mdc.mode = s.mdc.mode ∧ (settleB s).mdc.cause = s.mdc.cause ∧
    (settleB s).mdc.keyState = s.mdc.keyState ∧ (settleB s).mdc.lockout = s.mdc.lockout ∧
    (settleB s).mdc.calStatus = s.mdc.calStatus ∧ (settleB s).mdc.stSilence = s.mdc.stSilence ∧
    (settleB s).mdc.resetPending = s.mdc.resetPending ∧ (settleB s).siu = s.siu ∧ (settleB s).gmu = s.gmu ∧
    (settleB s).plu = s.plu ∧ (settleB s).evu = s.evu ∧ (settleB s).eeu = s.eeu ∧ (settleB s).svu = s.svu ∧
    (settleB s).rts = s.rts ∧ (settleB s).lnc.ctlA = s.lnc.ctlA ∧ (settleB s).lnc.ctlS = s.lnc.ctlS ∧
    (settleB s).lnc.rateA = s.lnc.rateA ∧ (settleB s).lnc.rateB = s.lnc.rateB ∧ (settleB s).lnc.rateS = s.lnc.rateS ∧
    (settleB s).lnc.txGrant = s.lnc.txGrant ∧ (settleB s).lnc.txReq1 = s.lnc.txReq1 ∧
    (settleB s).lnc.txReq2 = s.lnc.txReq2 ∧ (settleB s).lnc.half = s.lnc.half ∧
    (settleB s).lnc.pvcTimer = s.lnc.pvcTimer ∧ (settleB s).lnc.pvcSilent = s.lnc.pvcSilent ∧
    (settleB s).lnc.poseReport = s.lnc.poseReport ∧ (settleB s).lnc.latch = s.lnc.latch ∧
    (settleB s).lnc.commandCrc = s.lnc.commandCrc ∧ (settleB s).lnc.commandDropped = s.lnc.commandDropped ∧
    (settleB s).lnc.noticeOverflow = s.lnc.noticeOverflow := by
  simp only [settleB]
  (repeat' split) <;> simp

/-- The controllers supplied change the link buffers and queues only (R181). -/
@[simp] theorem linkSettle_frame (s : State) :
    (linkSettle s).pending = s.pending ∧ (linkSettle s).now = s.now ∧ (linkSettle s).draws = s.draws ∧
    (linkSettle s).power = s.power ∧ (linkSettle s).clock = s.clock ∧ (linkSettle s).store = s.store ∧
    (linkSettle s).mdc.mode = s.mdc.mode ∧ (linkSettle s).mdc.cause = s.mdc.cause ∧
    (linkSettle s).mdc.keyState = s.mdc.keyState ∧ (linkSettle s).mdc.lockout = s.mdc.lockout ∧
    (linkSettle s).mdc.calStatus = s.mdc.calStatus ∧ (linkSettle s).mdc.stSilence = s.mdc.stSilence ∧
    (linkSettle s).mdc.resetPending = s.mdc.resetPending ∧ (linkSettle s).siu = s.siu ∧ (linkSettle s).gmu = s.gmu ∧
    (linkSettle s).plu = s.plu ∧ (linkSettle s).evu = s.evu ∧ (linkSettle s).eeu = s.eeu ∧
    (linkSettle s).svu = s.svu ∧ (linkSettle s).rts = s.rts ∧ (linkSettle s).lnc.ctlS = s.lnc.ctlS ∧
    (linkSettle s).lnc.rateA = s.lnc.rateA ∧ (linkSettle s).lnc.rateB = s.lnc.rateB ∧
    (linkSettle s).lnc.rateS = s.lnc.rateS ∧ (linkSettle s).lnc.half = s.lnc.half ∧
    (linkSettle s).lnc.pvcTimer = s.lnc.pvcTimer ∧ (linkSettle s).lnc.pvcSilent = s.lnc.pvcSilent ∧
    (linkSettle s).lnc.poseReport = s.lnc.poseReport ∧ (linkSettle s).lnc.latch = s.lnc.latch ∧
    (linkSettle s).lnc.commandCrc = s.lnc.commandCrc ∧ (linkSettle s).lnc.commandDropped = s.lnc.commandDropped ∧
    (linkSettle s).lnc.noticeOverflow = s.lnc.noticeOverflow := by
  simp only [linkSettle]
  (repeat' split) <;> simp

/-- A controller freed (R181). -/
@[simp] theorem freeController_frame (l : Link) (s : State) :
    (freeController l s).pending = s.pending ∧ (freeController l s).now = s.now ∧
    (freeController l s).draws = s.draws ∧ (freeController l s).power = s.power ∧
    (freeController l s).clock = s.clock ∧ (freeController l s).store = s.store ∧ (freeController l s).mdc = s.mdc ∧
    (freeController l s).siu = s.siu ∧ (freeController l s).gmu = s.gmu ∧ (freeController l s).plu = s.plu ∧
    (freeController l s).evu = s.evu ∧ (freeController l s).eeu = s.eeu ∧ (freeController l s).svu = s.svu ∧
    (freeController l s).rts = s.rts ∧ (freeController l s).lnc.rateA = s.lnc.rateA ∧
    (freeController l s).lnc.rateB = s.lnc.rateB ∧ (freeController l s).lnc.rateS = s.lnc.rateS ∧
    (freeController l s).lnc.txGrant = s.lnc.txGrant ∧ (freeController l s).lnc.txReq1 = s.lnc.txReq1 ∧
    (freeController l s).lnc.txReq2 = s.lnc.txReq2 ∧ (freeController l s).lnc.txPose = s.lnc.txPose ∧
    (freeController l s).lnc.replies = s.lnc.replies ∧ (freeController l s).lnc.half = s.lnc.half ∧
    (freeController l s).lnc.notices = s.lnc.notices ∧ (freeController l s).lnc.lastNotice = s.lnc.lastNotice ∧
    (freeController l s).lnc.pvcTimer = s.lnc.pvcTimer ∧ (freeController l s).lnc.pvcSilent = s.lnc.pvcSilent ∧
    (freeController l s).lnc.poseReport = s.lnc.poseReport ∧ (freeController l s).lnc.latch = s.lnc.latch ∧
    (freeController l s).lnc.commandCrc = s.lnc.commandCrc ∧
    (freeController l s).lnc.commandDropped = s.lnc.commandDropped ∧
    (freeController l s).lnc.noticeOverflow = s.lnc.noticeOverflow := by
  cases l <;> simp [freeController]

/-- The latch alone takes the conditions that arose (R190). -/
@[simp] theorem latchArisen_frame (b : State) (s : State) :
    (latchArisen b s).pending = s.pending ∧ (latchArisen b s).now = s.now ∧ (latchArisen b s).draws = s.draws ∧
    (latchArisen b s).power = s.power ∧ (latchArisen b s).clock = s.clock ∧ (latchArisen b s).store = s.store ∧
    (latchArisen b s).mdc = s.mdc ∧ (latchArisen b s).siu = s.siu ∧ (latchArisen b s).gmu = s.gmu ∧
    (latchArisen b s).plu = s.plu ∧ (latchArisen b s).evu = s.evu ∧ (latchArisen b s).eeu = s.eeu ∧
    (latchArisen b s).svu = s.svu ∧ (latchArisen b s).rts = s.rts ∧ (latchArisen b s).lnc.ctlA = s.lnc.ctlA ∧
    (latchArisen b s).lnc.ctlB = s.lnc.ctlB ∧ (latchArisen b s).lnc.ctlS = s.lnc.ctlS ∧
    (latchArisen b s).lnc.rateA = s.lnc.rateA ∧ (latchArisen b s).lnc.rateB = s.lnc.rateB ∧
    (latchArisen b s).lnc.rateS = s.lnc.rateS ∧ (latchArisen b s).lnc.txGrant = s.lnc.txGrant ∧
    (latchArisen b s).lnc.txReq1 = s.lnc.txReq1 ∧ (latchArisen b s).lnc.txReq2 = s.lnc.txReq2 ∧
    (latchArisen b s).lnc.txPose = s.lnc.txPose ∧ (latchArisen b s).lnc.replies = s.lnc.replies ∧
    (latchArisen b s).lnc.half = s.lnc.half ∧ (latchArisen b s).lnc.notices = s.lnc.notices ∧
    (latchArisen b s).lnc.lastNotice = s.lnc.lastNotice ∧ (latchArisen b s).lnc.pvcTimer = s.lnc.pvcTimer ∧
    (latchArisen b s).lnc.pvcSilent = s.lnc.pvcSilent ∧ (latchArisen b s).lnc.poseReport = s.lnc.poseReport ∧
    (latchArisen b s).lnc.commandCrc = s.lnc.commandCrc ∧
    (latchArisen b s).lnc.commandDropped = s.lnc.commandDropped ∧
    (latchArisen b s).lnc.noticeOverflow = s.lnc.noticeOverflow := by
  simp [latchArisen]

/-- The latch alone takes the conditions that a new mask counts (R190). -/
@[simp] theorem latchByMask_frame (s : State) :
    (latchByMask s).pending = s.pending ∧ (latchByMask s).now = s.now ∧ (latchByMask s).draws = s.draws ∧
    (latchByMask s).power = s.power ∧ (latchByMask s).clock = s.clock ∧ (latchByMask s).store = s.store ∧
    (latchByMask s).mdc = s.mdc ∧ (latchByMask s).siu = s.siu ∧ (latchByMask s).gmu = s.gmu ∧
    (latchByMask s).plu = s.plu ∧ (latchByMask s).evu = s.evu ∧ (latchByMask s).eeu = s.eeu ∧
    (latchByMask s).svu = s.svu ∧ (latchByMask s).rts = s.rts ∧ (latchByMask s).lnc.ctlA = s.lnc.ctlA ∧
    (latchByMask s).lnc.ctlB = s.lnc.ctlB ∧ (latchByMask s).lnc.ctlS = s.lnc.ctlS ∧
    (latchByMask s).lnc.rateA = s.lnc.rateA ∧ (latchByMask s).lnc.rateB = s.lnc.rateB ∧
    (latchByMask s).lnc.rateS = s.lnc.rateS ∧ (latchByMask s).lnc.txGrant = s.lnc.txGrant ∧
    (latchByMask s).lnc.txReq1 = s.lnc.txReq1 ∧ (latchByMask s).lnc.txReq2 = s.lnc.txReq2 ∧
    (latchByMask s).lnc.txPose = s.lnc.txPose ∧ (latchByMask s).lnc.replies = s.lnc.replies ∧
    (latchByMask s).lnc.half = s.lnc.half ∧ (latchByMask s).lnc.notices = s.lnc.notices ∧
    (latchByMask s).lnc.lastNotice = s.lnc.lastNotice ∧ (latchByMask s).lnc.pvcTimer = s.lnc.pvcTimer ∧
    (latchByMask s).lnc.pvcSilent = s.lnc.pvcSilent ∧ (latchByMask s).lnc.poseReport = s.lnc.poseReport ∧
    (latchByMask s).lnc.commandCrc = s.lnc.commandCrc ∧ (latchByMask s).lnc.commandDropped = s.lnc.commandDropped ∧
    (latchByMask s).lnc.noticeOverflow = s.lnc.noticeOverflow := by
  simp [latchByMask]

/-- A channel record replaced, with its notice (R33). -/
@[simp] theorem updateChannel_frame (ch : Channel) (c : ChannelRec) (s : State) :
    (updateChannel ch c s).pending = s.pending ∧ (updateChannel ch c s).now = s.now ∧
    (updateChannel ch c s).draws = s.draws ∧ (updateChannel ch c s).power = s.power ∧
    (updateChannel ch c s).clock = s.clock ∧ (updateChannel ch c s).store = s.store ∧
    (updateChannel ch c s).mdc = s.mdc ∧ (updateChannel ch c s).gmu = s.gmu ∧ (updateChannel ch c s).plu = s.plu ∧
    (updateChannel ch c s).evu = s.evu ∧ (updateChannel ch c s).eeu = s.eeu ∧ (updateChannel ch c s).svu = s.svu ∧
    (updateChannel ch c s).rts = s.rts ∧ (updateChannel ch c s).lnc.ctlA = s.lnc.ctlA ∧
    (updateChannel ch c s).lnc.ctlB = s.lnc.ctlB ∧ (updateChannel ch c s).lnc.ctlS = s.lnc.ctlS ∧
    (updateChannel ch c s).lnc.rateA = s.lnc.rateA ∧ (updateChannel ch c s).lnc.rateB = s.lnc.rateB ∧
    (updateChannel ch c s).lnc.rateS = s.lnc.rateS ∧ (updateChannel ch c s).lnc.txGrant = s.lnc.txGrant ∧
    (updateChannel ch c s).lnc.txReq1 = s.lnc.txReq1 ∧ (updateChannel ch c s).lnc.txReq2 = s.lnc.txReq2 ∧
    (updateChannel ch c s).lnc.txPose = s.lnc.txPose ∧ (updateChannel ch c s).lnc.replies = s.lnc.replies ∧
    (updateChannel ch c s).lnc.half = s.lnc.half ∧ (updateChannel ch c s).lnc.lastNotice = s.lnc.lastNotice ∧
    (updateChannel ch c s).lnc.pvcTimer = s.lnc.pvcTimer ∧ (updateChannel ch c s).lnc.pvcSilent = s.lnc.pvcSilent ∧
    (updateChannel ch c s).lnc.poseReport = s.lnc.poseReport ∧ (updateChannel ch c s).lnc.latch = s.lnc.latch ∧
    (updateChannel ch c s).lnc.commandCrc = s.lnc.commandCrc ∧
    (updateChannel ch c s).lnc.commandDropped = s.lnc.commandDropped := by
  simp only [updateChannel]
  (repeat' split) <;> simp

@[simp] theorem updateChannel_siu (ch : Channel) (c : ChannelRec) (s : State) :
    (updateChannel ch c s).siu = channelSet s.siu ch c := by
  unfold updateChannel
  (repeat' split) <;> simp

end Sys2Proof.Laws
end

