-- ==== Sys2Proof/Laws/Caps.lean ====
section
/-! SUPPORT. What the operations on the cap table and the monitors change, one lemma each. -/

namespace Sys2Proof.Laws

open Sys2Proof Sys2Proof.Machine

/-- Forming the caps changes the cap table and the monitors only (R113, R115, R122). -/
@[simp] theorem formCaps_frame (s : State) :
    (formCaps s).pending = s.pending ∧ (formCaps s).now = s.now ∧ (formCaps s).draws = s.draws ∧
    (formCaps s).power = s.power ∧ (formCaps s).clock = s.clock ∧ (formCaps s).store = s.store ∧
    (formCaps s).mdc = s.mdc ∧ (formCaps s).siu = s.siu ∧ (formCaps s).gmu = s.gmu ∧ (formCaps s).plu = s.plu ∧
    (formCaps s).evu.fences = s.evu.fences ∧ (formCaps s).evu.dataLost = s.evu.dataLost ∧
    (formCaps s).evu.levers = s.evu.levers ∧ (formCaps s).evu.grant = s.evu.grant ∧
    (formCaps s).evu.refresh = s.evu.refresh ∧ (formCaps s).evu.outstanding = s.evu.outstanding ∧
    (formCaps s).evu.unconfirmed = s.evu.unconfirmed ∧ (formCaps s).eeu = s.eeu ∧ (formCaps s).svu = s.svu ∧
    (formCaps s).rts = s.rts ∧ (formCaps s).lnc = s.lnc := by
  simp [formCaps]

/-- The caps formed: the computed cap by the part mode, a granted cap above it lowered to it (R113, R115). -/
@[simp] theorem formCaps_row (f : HydFn) (s : State) :
    perFnGet (formCaps s).evu.caps f =
      { capRow s f with computed := computedCap s f, granted := fallenCap s f } := by
  simp [formCaps]

/-- Granted caps raised (R116). -/
@[simp] theorem riseCaps_frame (s : State) :
    (riseCaps s).pending = s.pending ∧ (riseCaps s).now = s.now ∧ (riseCaps s).draws = s.draws ∧
    (riseCaps s).power = s.power ∧ (riseCaps s).clock = s.clock ∧ (riseCaps s).store = s.store ∧
    (riseCaps s).mdc = s.mdc ∧ (riseCaps s).siu = s.siu ∧ (riseCaps s).gmu = s.gmu ∧ (riseCaps s).plu = s.plu ∧
    (riseCaps s).evu.fences = s.evu.fences ∧ (riseCaps s).evu.dataLost = s.evu.dataLost ∧
    (riseCaps s).evu.levers = s.evu.levers ∧ (riseCaps s).evu.grant = s.evu.grant ∧
    (riseCaps s).evu.refresh = s.evu.refresh ∧ (riseCaps s).evu.outstanding = s.evu.outstanding ∧
    (riseCaps s).evu.unconfirmed = s.evu.unconfirmed ∧ (riseCaps s).evu.monitors = s.evu.monitors ∧
    (riseCaps s).eeu = s.eeu ∧ (riseCaps s).svu = s.svu ∧ (riseCaps s).rts = s.rts ∧ (riseCaps s).lnc = s.lnc := by
  simp [riseCaps]

/-- Holds released (R125). -/
@[simp] theorem releaseHolds_frame (s : State) :
    (releaseHolds s).pending = s.pending ∧ (releaseHolds s).now = s.now ∧ (releaseHolds s).draws = s.draws ∧
    (releaseHolds s).power = s.power ∧ (releaseHolds s).clock = s.clock ∧ (releaseHolds s).store = s.store ∧
    (releaseHolds s).mdc = s.mdc ∧ (releaseHolds s).siu = s.siu ∧ (releaseHolds s).gmu = s.gmu ∧
    (releaseHolds s).plu = s.plu ∧ (releaseHolds s).evu.fences = s.evu.fences ∧
    (releaseHolds s).evu.dataLost = s.evu.dataLost ∧ (releaseHolds s).evu.levers = s.evu.levers ∧
    (releaseHolds s).evu.grant = s.evu.grant ∧ (releaseHolds s).evu.refresh = s.evu.refresh ∧
    (releaseHolds s).evu.outstanding = s.evu.outstanding ∧ (releaseHolds s).evu.unconfirmed = s.evu.unconfirmed ∧
    (releaseHolds s).evu.monitors = s.evu.monitors ∧ (releaseHolds s).eeu = s.eeu ∧ (releaseHolds s).svu = s.svu ∧
    (releaseHolds s).rts = s.rts ∧ (releaseHolds s).lnc = s.lnc := by
  simp [releaseHolds]

/-- Fence terms evaluated (R112). -/
@[simp] theorem evaluateFences_frame (s : State) :
    (evaluateFences s).pending = s.pending ∧ (evaluateFences s).now = s.now ∧ (evaluateFences s).draws = s.draws ∧
    (evaluateFences s).power = s.power ∧ (evaluateFences s).clock = s.clock ∧ (evaluateFences s).store = s.store ∧
    (evaluateFences s).mdc = s.mdc ∧ (evaluateFences s).siu = s.siu ∧ (evaluateFences s).gmu = s.gmu ∧
    (evaluateFences s).plu = s.plu ∧ (evaluateFences s).evu.fences = s.evu.fences ∧
    (evaluateFences s).evu.dataLost = s.evu.dataLost ∧ (evaluateFences s).evu.levers = s.evu.levers ∧
    (evaluateFences s).evu.grant = s.evu.grant ∧ (evaluateFences s).evu.refresh = s.evu.refresh ∧
    (evaluateFences s).evu.outstanding = s.evu.outstanding ∧ (evaluateFences s).evu.unconfirmed = s.evu.unconfirmed ∧
    (evaluateFences s).evu.monitors = s.evu.monitors ∧ (evaluateFences s).eeu = s.eeu ∧
    (evaluateFences s).svu = s.svu ∧ (evaluateFences s).rts = s.rts ∧ (evaluateFences s).lnc = s.lnc := by
  simp [evaluateFences]

/-- Fence terms lowered (R114). -/
@[simp] theorem lowerFences_frame (s : State) :
    (lowerFences s).pending = s.pending ∧ (lowerFences s).now = s.now ∧ (lowerFences s).draws = s.draws ∧
    (lowerFences s).power = s.power ∧ (lowerFences s).clock = s.clock ∧ (lowerFences s).store = s.store ∧
    (lowerFences s).mdc = s.mdc ∧ (lowerFences s).siu = s.siu ∧ (lowerFences s).gmu = s.gmu ∧
    (lowerFences s).plu = s.plu ∧ (lowerFences s).evu.fences = s.evu.fences ∧
    (lowerFences s).evu.dataLost = s.evu.dataLost ∧ (lowerFences s).evu.levers = s.evu.levers ∧
    (lowerFences s).evu.grant = s.evu.grant ∧ (lowerFences s).evu.refresh = s.evu.refresh ∧
    (lowerFences s).evu.outstanding = s.evu.outstanding ∧ (lowerFences s).evu.unconfirmed = s.evu.unconfirmed ∧
    (lowerFences s).evu.monitors = s.evu.monitors ∧ (lowerFences s).eeu = s.eeu ∧ (lowerFences s).svu = s.svu ∧
    (lowerFences s).rts = s.rts ∧ (lowerFences s).lnc = s.lnc := by
  simp [lowerFences]

/-- Fence terms at entry (R114). -/
@[simp] theorem enterFences_frame (s : State) :
    (enterFences s).pending = s.pending ∧ (enterFences s).now = s.now ∧ (enterFences s).draws = s.draws ∧
    (enterFences s).power = s.power ∧ (enterFences s).clock = s.clock ∧ (enterFences s).store = s.store ∧
    (enterFences s).mdc = s.mdc ∧ (enterFences s).siu = s.siu ∧ (enterFences s).gmu = s.gmu ∧
    (enterFences s).plu = s.plu ∧ (enterFences s).evu.fences = s.evu.fences ∧
    (enterFences s).evu.dataLost = s.evu.dataLost ∧ (enterFences s).evu.levers = s.evu.levers ∧
    (enterFences s).evu.grant = s.evu.grant ∧ (enterFences s).evu.refresh = s.evu.refresh ∧
    (enterFences s).evu.outstanding = s.evu.outstanding ∧ (enterFences s).evu.unconfirmed = s.evu.unconfirmed ∧
    (enterFences s).evu.monitors = s.evu.monitors ∧ (enterFences s).eeu = s.eeu ∧ (enterFences s).svu = s.svu ∧
    (enterFences s).rts = s.rts ∧ (enterFences s).lnc = s.lnc := by
  simp [enterFences]

/-- The other terms set (R103). -/
@[simp] theorem setTerms_frame (s : State) :
    (setTerms s).pending = s.pending ∧ (setTerms s).now = s.now ∧ (setTerms s).draws = s.draws ∧
    (setTerms s).power = s.power ∧ (setTerms s).clock = s.clock ∧ (setTerms s).store = s.store ∧
    (setTerms s).mdc = s.mdc ∧ (setTerms s).siu = s.siu ∧ (setTerms s).gmu = s.gmu ∧ (setTerms s).plu = s.plu ∧
    (setTerms s).evu.fences = s.evu.fences ∧ (setTerms s).evu.dataLost = s.evu.dataLost ∧
    (setTerms s).evu.levers = s.evu.levers ∧ (setTerms s).evu.grant = s.evu.grant ∧
    (setTerms s).evu.refresh = s.evu.refresh ∧ (setTerms s).evu.outstanding = s.evu.outstanding ∧
    (setTerms s).evu.unconfirmed = s.evu.unconfirmed ∧ (setTerms s).evu.monitors = s.evu.monitors ∧
    (setTerms s).eeu = s.eeu ∧ (setTerms s).svu = s.svu ∧ (setTerms s).rts = s.rts ∧ (setTerms s).lnc = s.lnc := by
  simp [setTerms]

/-- Monitors whose excess ended (R124). -/
@[simp] theorem disarmEnded_frame (s : State) :
    (disarmEnded s).pending = s.pending ∧ (disarmEnded s).now = s.now ∧ (disarmEnded s).draws = s.draws ∧
    (disarmEnded s).power = s.power ∧ (disarmEnded s).clock = s.clock ∧ (disarmEnded s).store = s.store ∧
    (disarmEnded s).mdc = s.mdc ∧ (disarmEnded s).siu = s.siu ∧ (disarmEnded s).gmu = s.gmu ∧
    (disarmEnded s).plu = s.plu ∧ (disarmEnded s).evu.fences = s.evu.fences ∧
    (disarmEnded s).evu.dataLost = s.evu.dataLost ∧ (disarmEnded s).evu.caps = s.evu.caps ∧
    (disarmEnded s).evu.levers = s.evu.levers ∧ (disarmEnded s).evu.grant = s.evu.grant ∧
    (disarmEnded s).evu.refresh = s.evu.refresh ∧ (disarmEnded s).evu.outstanding = s.evu.outstanding ∧
    (disarmEnded s).evu.unconfirmed = s.evu.unconfirmed ∧ (disarmEnded s).eeu = s.eeu ∧ (disarmEnded s).svu = s.svu ∧
    (disarmEnded s).rts = s.rts ∧ (disarmEnded s).lnc = s.lnc := by
  simp [disarmEnded]

/-- Every monitor disarmed (R122). -/
@[simp] theorem disarmAll_frame (s : State) :
    (disarmAll s).pending = s.pending ∧ (disarmAll s).now = s.now ∧ (disarmAll s).draws = s.draws ∧
    (disarmAll s).power = s.power ∧ (disarmAll s).clock = s.clock ∧ (disarmAll s).store = s.store ∧
    (disarmAll s).mdc = s.mdc ∧ (disarmAll s).siu = s.siu ∧ (disarmAll s).gmu = s.gmu ∧ (disarmAll s).plu = s.plu ∧
    (disarmAll s).evu.fences = s.evu.fences ∧ (disarmAll s).evu.dataLost = s.evu.dataLost ∧
    (disarmAll s).evu.caps = s.evu.caps ∧ (disarmAll s).evu.levers = s.evu.levers ∧
    (disarmAll s).evu.grant = s.evu.grant ∧ (disarmAll s).evu.refresh = s.evu.refresh ∧
    (disarmAll s).evu.outstanding = s.evu.outstanding ∧ (disarmAll s).evu.unconfirmed = s.evu.unconfirmed ∧
    (disarmAll s).eeu = s.eeu ∧ (disarmAll s).svu = s.svu ∧ (disarmAll s).rts = s.rts ∧
    (disarmAll s).lnc = s.lnc := by
  simp [disarmAll]

/-- Terms set and caps formed (R114). -/
@[simp] theorem reformCaps_frame (s : State) :
    (reformCaps s).pending = s.pending ∧ (reformCaps s).now = s.now ∧ (reformCaps s).draws = s.draws ∧
    (reformCaps s).power = s.power ∧ (reformCaps s).clock = s.clock ∧ (reformCaps s).store = s.store ∧
    (reformCaps s).mdc = s.mdc ∧ (reformCaps s).siu = s.siu ∧ (reformCaps s).gmu = s.gmu ∧
    (reformCaps s).plu = s.plu ∧ (reformCaps s).evu.fences = s.evu.fences ∧
    (reformCaps s).evu.dataLost = s.evu.dataLost ∧ (reformCaps s).evu.levers = s.evu.levers ∧
    (reformCaps s).evu.grant = s.evu.grant ∧ (reformCaps s).evu.refresh = s.evu.refresh ∧
    (reformCaps s).evu.outstanding = s.evu.outstanding ∧ (reformCaps s).evu.unconfirmed = s.evu.unconfirmed ∧
    (reformCaps s).eeu = s.eeu ∧ (reformCaps s).svu = s.svu ∧ (reformCaps s).rts = s.rts ∧
    (reformCaps s).lnc = s.lnc := by
  simp [reformCaps]

/-- A lever frame in the lever record (R104). -/
@[simp] theorem recordLevers_frame (d : PerFn Nat) (s : State) :
    (recordLevers d s).pending = s.pending ∧ (recordLevers d s).now = s.now ∧ (recordLevers d s).draws = s.draws ∧
    (recordLevers d s).power = s.power ∧ (recordLevers d s).clock = s.clock ∧ (recordLevers d s).store = s.store ∧
    (recordLevers d s).mdc = s.mdc ∧ (recordLevers d s).siu = s.siu ∧ (recordLevers d s).gmu = s.gmu ∧
    (recordLevers d s).plu = s.plu ∧ (recordLevers d s).evu.fences = s.evu.fences ∧
    (recordLevers d s).evu.dataLost = s.evu.dataLost ∧ (recordLevers d s).evu.caps = s.evu.caps ∧
    (recordLevers d s).evu.grant = s.evu.grant ∧ (recordLevers d s).evu.refresh = s.evu.refresh ∧
    (recordLevers d s).evu.outstanding = s.evu.outstanding ∧ (recordLevers d s).evu.unconfirmed = s.evu.unconfirmed ∧
    (recordLevers d s).evu.monitors = s.evu.monitors ∧ (recordLevers d s).eeu = s.eeu ∧
    (recordLevers d s).svu = s.svu ∧ (recordLevers d s).rts = s.rts ∧ (recordLevers d s).lnc = s.lnc := by
  simp [recordLevers]

/-- The caps after a lever frame (R116, R124, R125). -/
@[simp] theorem leverCaps_frame (s : State) :
    (leverCaps s).pending = s.pending ∧ (leverCaps s).now = s.now ∧ (leverCaps s).draws = s.draws ∧
    (leverCaps s).power = s.power ∧ (leverCaps s).clock = s.clock ∧ (leverCaps s).store = s.store ∧
    (leverCaps s).mdc = s.mdc ∧ (leverCaps s).siu = s.siu ∧ (leverCaps s).gmu = s.gmu ∧ (leverCaps s).plu = s.plu ∧
    (leverCaps s).evu.fences = s.evu.fences ∧ (leverCaps s).evu.dataLost = s.evu.dataLost ∧
    (leverCaps s).evu.levers = s.evu.levers ∧ (leverCaps s).evu.grant = s.evu.grant ∧
    (leverCaps s).evu.refresh = s.evu.refresh ∧ (leverCaps s).evu.outstanding = s.evu.outstanding ∧
    (leverCaps s).evu.unconfirmed = s.evu.unconfirmed ∧ (leverCaps s).eeu = s.eeu ∧ (leverCaps s).svu = s.svu ∧
    (leverCaps s).rts = s.rts ∧ (leverCaps s).lnc = s.lnc := by
  simp [leverCaps]

@[simp] theorem riseCaps_row (f : HydFn) (s : State) :
    perFnGet (riseCaps s).evu.caps f =
      if neutral s f then { capRow s f with granted := max (capRow s f).granted (capRow s f).computed }
      else capRow s f := by
  simp [riseCaps]

@[simp] theorem releaseHolds_row (f : HydFn) (s : State) :
    perFnGet (releaseHolds s).evu.caps f =
      if neutral s f then { capRow s f with hold := false } else capRow s f := by
  simp [releaseHolds]

@[simp] theorem disarmEnded_monitor (f : HydFn) (s : State) :
    perFnGet (disarmEnded s).evu.monitors f =
      if (perFnGet s.evu.monitors f).armed && decide (demandOf s f ≤ (capRow s f).granted) then
        disarm (perFnGet s.evu.monitors f) else perFnGet s.evu.monitors f := by
  simp [disarmEnded]

end Sys2Proof.Laws
end

