-- ==== Sys2Proof/Laws/Engines.lean ====
section
/-! SUPPORT. What the operations of the Engine Economy Unit change, one lemma each. -/

namespace Sys2Proof.Laws

open Sys2Proof Sys2Proof.Machine

/-- A slot changes state, with its notice (R133). -/
@[simp] theorem enterSlot_frame (e : Engine) (st : SlotState) (s : State) :
    (enterSlot e st s).pending = s.pending ∧ (enterSlot e st s).now = s.now ∧ (enterSlot e st s).draws = s.draws ∧
    (enterSlot e st s).power = s.power ∧ (enterSlot e st s).clock = s.clock ∧ (enterSlot e st s).store = s.store ∧
    (enterSlot e st s).mdc = s.mdc ∧ (enterSlot e st s).siu = s.siu ∧ (enterSlot e st s).gmu = s.gmu ∧
    (enterSlot e st s).plu = s.plu ∧ (enterSlot e st s).evu = s.evu ∧
    (enterSlot e st s).eeu.engineCount = s.eeu.engineCount ∧ (enterSlot e st s).eeu.accumulator = s.eeu.accumulator ∧
    (enterSlot e st s).eeu.average = s.eeu.average ∧ (enterSlot e st s).eeu.joinHold = s.eeu.joinHold ∧
    (enterSlot e st s).eeu.leaveHold = s.eeu.leaveHold ∧ (enterSlot e st s).eeu.ladder = s.eeu.ladder ∧
    (enterSlot e st s).eeu.autoIdle = s.eeu.autoIdle ∧ (enterSlot e st s).eeu.lockoutTimer = s.eeu.lockoutTimer ∧
    (enterSlot e st s).eeu.shutdownDelay = s.eeu.shutdownDelay ∧ (enterSlot e st s).eeu.countdown = s.eeu.countdown ∧
    (enterSlot e st s).eeu.idleHold = s.eeu.idleHold ∧ (enterSlot e st s).eeu.pumpDemand = s.eeu.pumpDemand ∧
    (enterSlot e st s).eeu.oilTemp = s.eeu.oilTemp ∧ (enterSlot e st s).eeu.warmup = s.eeu.warmup ∧
    (enterSlot e st s).eeu.effective = s.eeu.effective ∧ (enterSlot e st s).eeu.limit = s.eeu.limit ∧
    (enterSlot e st s).eeu.fuelRem = s.eeu.fuelRem ∧ (enterSlot e st s).eeu.fuelTimer = s.eeu.fuelTimer ∧
    (enterSlot e st s).eeu.feedTimer = s.eeu.feedTimer ∧ (enterSlot e st s).eeu.settings = s.eeu.settings ∧
    (enterSlot e st s).svu = s.svu ∧ (enterSlot e st s).rts = s.rts ∧ (enterSlot e st s).lnc.ctlA = s.lnc.ctlA ∧
    (enterSlot e st s).lnc.ctlB = s.lnc.ctlB ∧ (enterSlot e st s).lnc.ctlS = s.lnc.ctlS ∧
    (enterSlot e st s).lnc.rateA = s.lnc.rateA ∧ (enterSlot e st s).lnc.rateB = s.lnc.rateB ∧
    (enterSlot e st s).lnc.rateS = s.lnc.rateS ∧ (enterSlot e st s).lnc.txGrant = s.lnc.txGrant ∧
    (enterSlot e st s).lnc.txReq1 = s.lnc.txReq1 ∧ (enterSlot e st s).lnc.txReq2 = s.lnc.txReq2 ∧
    (enterSlot e st s).lnc.txPose = s.lnc.txPose ∧ (enterSlot e st s).lnc.replies = s.lnc.replies ∧
    (enterSlot e st s).lnc.half = s.lnc.half ∧ (enterSlot e st s).lnc.lastNotice = s.lnc.lastNotice ∧
    (enterSlot e st s).lnc.pvcTimer = s.lnc.pvcTimer ∧ (enterSlot e st s).lnc.pvcSilent = s.lnc.pvcSilent ∧
    (enterSlot e st s).lnc.poseReport = s.lnc.poseReport ∧ (enterSlot e st s).lnc.latch = s.lnc.latch ∧
    (enterSlot e st s).lnc.commandCrc = s.lnc.commandCrc ∧
    (enterSlot e st s).lnc.commandDropped = s.lnc.commandDropped := by
  simp [enterSlot]

/-- A slot enters FAULTED (R133). -/
@[simp] theorem faultSlot_frame (e : Engine) (c : FaultCause) (s : State) :
    (faultSlot e c s).pending = s.pending ∧ (faultSlot e c s).now = s.now ∧ (faultSlot e c s).draws = s.draws ∧
    (faultSlot e c s).power = s.power ∧ (faultSlot e c s).clock = s.clock ∧ (faultSlot e c s).store = s.store ∧
    (faultSlot e c s).mdc = s.mdc ∧ (faultSlot e c s).siu = s.siu ∧ (faultSlot e c s).gmu = s.gmu ∧
    (faultSlot e c s).plu = s.plu ∧ (faultSlot e c s).evu = s.evu ∧
    (faultSlot e c s).eeu.engineCount = s.eeu.engineCount ∧ (faultSlot e c s).eeu.accumulator = s.eeu.accumulator ∧
    (faultSlot e c s).eeu.average = s.eeu.average ∧ (faultSlot e c s).eeu.joinHold = s.eeu.joinHold ∧
    (faultSlot e c s).eeu.leaveHold = s.eeu.leaveHold ∧ (faultSlot e c s).eeu.ladder = s.eeu.ladder ∧
    (faultSlot e c s).eeu.autoIdle = s.eeu.autoIdle ∧ (faultSlot e c s).eeu.lockoutTimer = s.eeu.lockoutTimer ∧
    (faultSlot e c s).eeu.shutdownDelay = s.eeu.shutdownDelay ∧ (faultSlot e c s).eeu.countdown = s.eeu.countdown ∧
    (faultSlot e c s).eeu.idleHold = s.eeu.idleHold ∧ (faultSlot e c s).eeu.pumpDemand = s.eeu.pumpDemand ∧
    (faultSlot e c s).eeu.oilTemp = s.eeu.oilTemp ∧ (faultSlot e c s).eeu.warmup = s.eeu.warmup ∧
    (faultSlot e c s).eeu.effective = s.eeu.effective ∧ (faultSlot e c s).eeu.limit = s.eeu.limit ∧
    (faultSlot e c s).eeu.fuelRem = s.eeu.fuelRem ∧ (faultSlot e c s).eeu.fuelTimer = s.eeu.fuelTimer ∧
    (faultSlot e c s).eeu.feedTimer = s.eeu.feedTimer ∧ (faultSlot e c s).eeu.settings = s.eeu.settings ∧
    (faultSlot e c s).svu = s.svu ∧ (faultSlot e c s).rts = s.rts ∧ (faultSlot e c s).lnc.ctlA = s.lnc.ctlA ∧
    (faultSlot e c s).lnc.ctlB = s.lnc.ctlB ∧ (faultSlot e c s).lnc.ctlS = s.lnc.ctlS ∧
    (faultSlot e c s).lnc.rateA = s.lnc.rateA ∧ (faultSlot e c s).lnc.rateB = s.lnc.rateB ∧
    (faultSlot e c s).lnc.rateS = s.lnc.rateS ∧ (faultSlot e c s).lnc.txGrant = s.lnc.txGrant ∧
    (faultSlot e c s).lnc.txReq1 = s.lnc.txReq1 ∧ (faultSlot e c s).lnc.txReq2 = s.lnc.txReq2 ∧
    (faultSlot e c s).lnc.txPose = s.lnc.txPose ∧ (faultSlot e c s).lnc.replies = s.lnc.replies ∧
    (faultSlot e c s).lnc.half = s.lnc.half ∧ (faultSlot e c s).lnc.lastNotice = s.lnc.lastNotice ∧
    (faultSlot e c s).lnc.pvcTimer = s.lnc.pvcTimer ∧ (faultSlot e c s).lnc.pvcSilent = s.lnc.pvcSilent ∧
    (faultSlot e c s).lnc.poseReport = s.lnc.poseReport ∧ (faultSlot e c s).lnc.latch = s.lnc.latch ∧
    (faultSlot e c s).lnc.commandCrc = s.lnc.commandCrc ∧
    (faultSlot e c s).lnc.commandDropped = s.lnc.commandDropped := by
  simp [faultSlot]

/-- The retry wait starts (R139). -/
@[simp] theorem startRetry_frame (e : Engine) (s : State) :
    (startRetry e s).pending = s.pending ∧ (startRetry e s).now = s.now ∧ (startRetry e s).draws = s.draws ∧
    (startRetry e s).power = s.power ∧ (startRetry e s).clock = s.clock ∧ (startRetry e s).store = s.store ∧
    (startRetry e s).mdc = s.mdc ∧ (startRetry e s).siu = s.siu ∧ (startRetry e s).gmu = s.gmu ∧
    (startRetry e s).plu = s.plu ∧ (startRetry e s).evu = s.evu ∧
    (startRetry e s).eeu.engineCount = s.eeu.engineCount ∧ (startRetry e s).eeu.accumulator = s.eeu.accumulator ∧
    (startRetry e s).eeu.average = s.eeu.average ∧ (startRetry e s).eeu.joinHold = s.eeu.joinHold ∧
    (startRetry e s).eeu.leaveHold = s.eeu.leaveHold ∧ (startRetry e s).eeu.ladder = s.eeu.ladder ∧
    (startRetry e s).eeu.autoIdle = s.eeu.autoIdle ∧ (startRetry e s).eeu.lockoutTimer = s.eeu.lockoutTimer ∧
    (startRetry e s).eeu.shutdownDelay = s.eeu.shutdownDelay ∧ (startRetry e s).eeu.countdown = s.eeu.countdown ∧
    (startRetry e s).eeu.idleHold = s.eeu.idleHold ∧ (startRetry e s).eeu.pumpDemand = s.eeu.pumpDemand ∧
    (startRetry e s).eeu.oilTemp = s.eeu.oilTemp ∧ (startRetry e s).eeu.warmup = s.eeu.warmup ∧
    (startRetry e s).eeu.effective = s.eeu.effective ∧ (startRetry e s).eeu.limit = s.eeu.limit ∧
    (startRetry e s).eeu.fuelRem = s.eeu.fuelRem ∧ (startRetry e s).eeu.fuelTimer = s.eeu.fuelTimer ∧
    (startRetry e s).eeu.feedTimer = s.eeu.feedTimer ∧ (startRetry e s).eeu.settings = s.eeu.settings ∧
    (startRetry e s).svu = s.svu ∧ (startRetry e s).rts = s.rts ∧ (startRetry e s).lnc = s.lnc := by
  simp [startRetry]

/-- The shut-down action of one slot (R143). -/
@[simp] theorem shutDownSlot_frame (e : Engine) (s : State) :
    (shutDownSlot e s).pending = s.pending ∧ (shutDownSlot e s).now = s.now ∧ (shutDownSlot e s).draws = s.draws ∧
    (shutDownSlot e s).power = s.power ∧ (shutDownSlot e s).clock = s.clock ∧ (shutDownSlot e s).store = s.store ∧
    (shutDownSlot e s).mdc = s.mdc ∧ (shutDownSlot e s).siu = s.siu ∧ (shutDownSlot e s).gmu = s.gmu ∧
    (shutDownSlot e s).plu = s.plu ∧ (shutDownSlot e s).evu = s.evu ∧
    (shutDownSlot e s).eeu.engineCount = s.eeu.engineCount ∧ (shutDownSlot e s).eeu.accumulator = s.eeu.accumulator ∧
    (shutDownSlot e s).eeu.average = s.eeu.average ∧ (shutDownSlot e s).eeu.joinHold = s.eeu.joinHold ∧
    (shutDownSlot e s).eeu.leaveHold = s.eeu.leaveHold ∧ (shutDownSlot e s).eeu.ladder = s.eeu.ladder ∧
    (shutDownSlot e s).eeu.autoIdle = s.eeu.autoIdle ∧ (shutDownSlot e s).eeu.lockoutTimer = s.eeu.lockoutTimer ∧
    (shutDownSlot e s).eeu.shutdownDelay = s.eeu.shutdownDelay ∧ (shutDownSlot e s).eeu.countdown = s.eeu.countdown ∧
    (shutDownSlot e s).eeu.idleHold = s.eeu.idleHold ∧ (shutDownSlot e s).eeu.pumpDemand = s.eeu.pumpDemand ∧
    (shutDownSlot e s).eeu.oilTemp = s.eeu.oilTemp ∧ (shutDownSlot e s).eeu.warmup = s.eeu.warmup ∧
    (shutDownSlot e s).eeu.effective = s.eeu.effective ∧ (shutDownSlot e s).eeu.limit = s.eeu.limit ∧
    (shutDownSlot e s).eeu.fuelRem = s.eeu.fuelRem ∧ (shutDownSlot e s).eeu.fuelTimer = s.eeu.fuelTimer ∧
    (shutDownSlot e s).eeu.feedTimer = s.eeu.feedTimer ∧ (shutDownSlot e s).eeu.settings = s.eeu.settings ∧
    (shutDownSlot e s).svu = s.svu ∧ (shutDownSlot e s).rts = s.rts ∧ (shutDownSlot e s).lnc.ctlA = s.lnc.ctlA ∧
    (shutDownSlot e s).lnc.ctlB = s.lnc.ctlB ∧ (shutDownSlot e s).lnc.ctlS = s.lnc.ctlS ∧
    (shutDownSlot e s).lnc.rateA = s.lnc.rateA ∧ (shutDownSlot e s).lnc.rateB = s.lnc.rateB ∧
    (shutDownSlot e s).lnc.rateS = s.lnc.rateS ∧ (shutDownSlot e s).lnc.txGrant = s.lnc.txGrant ∧
    (shutDownSlot e s).lnc.txReq1 = s.lnc.txReq1 ∧ (shutDownSlot e s).lnc.txReq2 = s.lnc.txReq2 ∧
    (shutDownSlot e s).lnc.txPose = s.lnc.txPose ∧ (shutDownSlot e s).lnc.replies = s.lnc.replies ∧
    (shutDownSlot e s).lnc.half = s.lnc.half ∧ (shutDownSlot e s).lnc.lastNotice = s.lnc.lastNotice ∧
    (shutDownSlot e s).lnc.pvcTimer = s.lnc.pvcTimer ∧ (shutDownSlot e s).lnc.pvcSilent = s.lnc.pvcSilent ∧
    (shutDownSlot e s).lnc.poseReport = s.lnc.poseReport ∧ (shutDownSlot e s).lnc.latch = s.lnc.latch ∧
    (shutDownSlot e s).lnc.commandCrc = s.lnc.commandCrc ∧
    (shutDownSlot e s).lnc.commandDropped = s.lnc.commandDropped := by
  simp only [shutDownSlot]
  (repeat' split) <;> simp

/-- The shut-down actions (R143). -/
@[simp] theorem shutDownActions_frame (s : State) :
    (shutDownActions s).pending = s.pending ∧ (shutDownActions s).now = s.now ∧ (shutDownActions s).draws = s.draws ∧
    (shutDownActions s).power = s.power ∧ (shutDownActions s).clock = s.clock ∧ (shutDownActions s).store = s.store ∧
    (shutDownActions s).mdc = s.mdc ∧ (shutDownActions s).siu = s.siu ∧ (shutDownActions s).gmu = s.gmu ∧
    (shutDownActions s).plu = s.plu ∧ (shutDownActions s).evu = s.evu ∧
    (shutDownActions s).eeu.engineCount = s.eeu.engineCount ∧
    (shutDownActions s).eeu.accumulator = s.eeu.accumulator ∧ (shutDownActions s).eeu.average = s.eeu.average ∧
    (shutDownActions s).eeu.joinHold = s.eeu.joinHold ∧ (shutDownActions s).eeu.leaveHold = s.eeu.leaveHold ∧
    (shutDownActions s).eeu.ladder = s.eeu.ladder ∧ (shutDownActions s).eeu.autoIdle = s.eeu.autoIdle ∧
    (shutDownActions s).eeu.lockoutTimer = s.eeu.lockoutTimer ∧
    (shutDownActions s).eeu.shutdownDelay = s.eeu.shutdownDelay ∧
    (shutDownActions s).eeu.countdown = s.eeu.countdown ∧ (shutDownActions s).eeu.idleHold = s.eeu.idleHold ∧
    (shutDownActions s).eeu.pumpDemand = s.eeu.pumpDemand ∧ (shutDownActions s).eeu.oilTemp = s.eeu.oilTemp ∧
    (shutDownActions s).eeu.warmup = s.eeu.warmup ∧ (shutDownActions s).eeu.effective = s.eeu.effective ∧
    (shutDownActions s).eeu.limit = s.eeu.limit ∧ (shutDownActions s).eeu.fuelRem = s.eeu.fuelRem ∧
    (shutDownActions s).eeu.fuelTimer = s.eeu.fuelTimer ∧ (shutDownActions s).eeu.feedTimer = s.eeu.feedTimer ∧
    (shutDownActions s).eeu.settings = s.eeu.settings ∧ (shutDownActions s).svu = s.svu ∧
    (shutDownActions s).rts = s.rts ∧ (shutDownActions s).lnc.ctlA = s.lnc.ctlA ∧
    (shutDownActions s).lnc.ctlB = s.lnc.ctlB ∧ (shutDownActions s).lnc.ctlS = s.lnc.ctlS ∧
    (shutDownActions s).lnc.rateA = s.lnc.rateA ∧ (shutDownActions s).lnc.rateB = s.lnc.rateB ∧
    (shutDownActions s).lnc.rateS = s.lnc.rateS ∧ (shutDownActions s).lnc.txGrant = s.lnc.txGrant ∧
    (shutDownActions s).lnc.txReq1 = s.lnc.txReq1 ∧ (shutDownActions s).lnc.txReq2 = s.lnc.txReq2 ∧
    (shutDownActions s).lnc.txPose = s.lnc.txPose ∧ (shutDownActions s).lnc.replies = s.lnc.replies ∧
    (shutDownActions s).lnc.half = s.lnc.half ∧ (shutDownActions s).lnc.lastNotice = s.lnc.lastNotice ∧
    (shutDownActions s).lnc.pvcTimer = s.lnc.pvcTimer ∧ (shutDownActions s).lnc.pvcSilent = s.lnc.pvcSilent ∧
    (shutDownActions s).lnc.poseReport = s.lnc.poseReport ∧ (shutDownActions s).lnc.latch = s.lnc.latch ∧
    (shutDownActions s).lnc.commandCrc = s.lnc.commandCrc ∧
    (shutDownActions s).lnc.commandDropped = s.lnc.commandDropped := by
  simp [shutDownActions]

/-- The shut-down warning (R150). -/
@[simp] theorem warnShutdown_frame (v : Severity) (n : Nat) (s : State) :
    (warnShutdown v n s).pending = s.pending ∧ (warnShutdown v n s).now = s.now ∧
    (warnShutdown v n s).draws = s.draws ∧ (warnShutdown v n s).power = s.power ∧
    (warnShutdown v n s).clock = s.clock ∧ (warnShutdown v n s).store = s.store ∧ (warnShutdown v n s).mdc = s.mdc ∧
    (warnShutdown v n s).siu = s.siu ∧ (warnShutdown v n s).gmu = s.gmu ∧ (warnShutdown v n s).plu = s.plu ∧
    (warnShutdown v n s).evu = s.evu ∧ (warnShutdown v n s).eeu = s.eeu ∧ (warnShutdown v n s).svu = s.svu ∧
    (warnShutdown v n s).rts = s.rts ∧ (warnShutdown v n s).lnc.ctlA = s.lnc.ctlA ∧
    (warnShutdown v n s).lnc.ctlB = s.lnc.ctlB ∧ (warnShutdown v n s).lnc.ctlS = s.lnc.ctlS ∧
    (warnShutdown v n s).lnc.rateA = s.lnc.rateA ∧ (warnShutdown v n s).lnc.rateB = s.lnc.rateB ∧
    (warnShutdown v n s).lnc.rateS = s.lnc.rateS ∧ (warnShutdown v n s).lnc.txGrant = s.lnc.txGrant ∧
    (warnShutdown v n s).lnc.txReq1 = s.lnc.txReq1 ∧ (warnShutdown v n s).lnc.txReq2 = s.lnc.txReq2 ∧
    (warnShutdown v n s).lnc.txPose = s.lnc.txPose ∧ (warnShutdown v n s).lnc.replies = s.lnc.replies ∧
    (warnShutdown v n s).lnc.half = s.lnc.half ∧ (warnShutdown v n s).lnc.lastNotice = s.lnc.lastNotice ∧
    (warnShutdown v n s).lnc.pvcTimer = s.lnc.pvcTimer ∧ (warnShutdown v n s).lnc.pvcSilent = s.lnc.pvcSilent ∧
    (warnShutdown v n s).lnc.poseReport = s.lnc.poseReport ∧ (warnShutdown v n s).lnc.latch = s.lnc.latch ∧
    (warnShutdown v n s).lnc.commandCrc = s.lnc.commandCrc ∧
    (warnShutdown v n s).lnc.commandDropped = s.lnc.commandDropped := by
  simp [warnShutdown]

/-- The ladder's timers (R147 to R151). -/
@[simp] theorem ladderTimersFor_frame (l : Ladder) (s : State) :
    (ladderTimersFor l s).pending = s.pending ∧ (ladderTimersFor l s).now = s.now ∧
    (ladderTimersFor l s).draws = s.draws ∧ (ladderTimersFor l s).power = s.power ∧
    (ladderTimersFor l s).clock = s.clock ∧ (ladderTimersFor l s).store = s.store ∧
    (ladderTimersFor l s).mdc = s.mdc ∧ (ladderTimersFor l s).siu = s.siu ∧ (ladderTimersFor l s).gmu = s.gmu ∧
    (ladderTimersFor l s).plu = s.plu ∧ (ladderTimersFor l s).evu = s.evu ∧
    (ladderTimersFor l s).eeu.slot1 = s.eeu.slot1 ∧ (ladderTimersFor l s).eeu.slot2 = s.eeu.slot2 ∧
    (ladderTimersFor l s).eeu.engineCount = s.eeu.engineCount ∧
    (ladderTimersFor l s).eeu.accumulator = s.eeu.accumulator ∧ (ladderTimersFor l s).eeu.average = s.eeu.average ∧
    (ladderTimersFor l s).eeu.joinHold = s.eeu.joinHold ∧ (ladderTimersFor l s).eeu.leaveHold = s.eeu.leaveHold ∧
    (ladderTimersFor l s).eeu.ladder = s.eeu.ladder ∧ (ladderTimersFor l s).eeu.idleHold = s.eeu.idleHold ∧
    (ladderTimersFor l s).eeu.pumpDemand = s.eeu.pumpDemand ∧ (ladderTimersFor l s).eeu.oilTemp = s.eeu.oilTemp ∧
    (ladderTimersFor l s).eeu.warmup = s.eeu.warmup ∧ (ladderTimersFor l s).eeu.effective = s.eeu.effective ∧
    (ladderTimersFor l s).eeu.limit = s.eeu.limit ∧ (ladderTimersFor l s).eeu.fuelRem = s.eeu.fuelRem ∧
    (ladderTimersFor l s).eeu.fuelTimer = s.eeu.fuelTimer ∧ (ladderTimersFor l s).eeu.feedTimer = s.eeu.feedTimer ∧
    (ladderTimersFor l s).eeu.settings = s.eeu.settings ∧ (ladderTimersFor l s).svu = s.svu ∧
    (ladderTimersFor l s).rts = s.rts ∧ (ladderTimersFor l s).lnc = s.lnc := by
  simp [ladderTimersFor]

/-- The ladder goes to a step (R146). -/
@[simp] theorem setLadder_frame (l : Ladder) (s : State) :
    (setLadder l s).pending = s.pending ∧ (setLadder l s).now = s.now ∧ (setLadder l s).draws = s.draws ∧
    (setLadder l s).power = s.power ∧ (setLadder l s).clock = s.clock ∧ (setLadder l s).store = s.store ∧
    (setLadder l s).mdc = s.mdc ∧ (setLadder l s).siu = s.siu ∧ (setLadder l s).gmu = s.gmu ∧
    (setLadder l s).plu = s.plu ∧ (setLadder l s).evu = s.evu ∧ (setLadder l s).eeu.engineCount = s.eeu.engineCount ∧
    (setLadder l s).eeu.accumulator = s.eeu.accumulator ∧ (setLadder l s).eeu.average = s.eeu.average ∧
    (setLadder l s).eeu.joinHold = s.eeu.joinHold ∧ (setLadder l s).eeu.leaveHold = s.eeu.leaveHold ∧
    (setLadder l s).eeu.idleHold = s.eeu.idleHold ∧ (setLadder l s).eeu.pumpDemand = s.eeu.pumpDemand ∧
    (setLadder l s).eeu.oilTemp = s.eeu.oilTemp ∧ (setLadder l s).eeu.warmup = s.eeu.warmup ∧
    (setLadder l s).eeu.effective = s.eeu.effective ∧ (setLadder l s).eeu.limit = s.eeu.limit ∧
    (setLadder l s).eeu.fuelRem = s.eeu.fuelRem ∧ (setLadder l s).eeu.fuelTimer = s.eeu.fuelTimer ∧
    (setLadder l s).eeu.feedTimer = s.eeu.feedTimer ∧ (setLadder l s).eeu.settings = s.eeu.settings ∧
    (setLadder l s).svu = s.svu ∧ (setLadder l s).rts = s.rts ∧ (setLadder l s).lnc.ctlA = s.lnc.ctlA ∧
    (setLadder l s).lnc.ctlB = s.lnc.ctlB ∧ (setLadder l s).lnc.ctlS = s.lnc.ctlS ∧
    (setLadder l s).lnc.rateA = s.lnc.rateA ∧ (setLadder l s).lnc.rateB = s.lnc.rateB ∧
    (setLadder l s).lnc.rateS = s.lnc.rateS ∧ (setLadder l s).lnc.txGrant = s.lnc.txGrant ∧
    (setLadder l s).lnc.txReq1 = s.lnc.txReq1 ∧ (setLadder l s).lnc.txReq2 = s.lnc.txReq2 ∧
    (setLadder l s).lnc.txPose = s.lnc.txPose ∧ (setLadder l s).lnc.replies = s.lnc.replies ∧
    (setLadder l s).lnc.half = s.lnc.half ∧ (setLadder l s).lnc.lastNotice = s.lnc.lastNotice ∧
    (setLadder l s).lnc.pvcTimer = s.lnc.pvcTimer ∧ (setLadder l s).lnc.pvcSilent = s.lnc.pvcSilent ∧
    (setLadder l s).lnc.poseReport = s.lnc.poseReport ∧ (setLadder l s).lnc.latch = s.lnc.latch ∧
    (setLadder l s).lnc.commandCrc = s.lnc.commandCrc ∧
    (setLadder l s).lnc.commandDropped = s.lnc.commandDropped := by
  simp only [setLadder]
  (repeat' split) <;> simp

@[simp] theorem setLadder_ladder (l : Ladder) (s : State) : (setLadder l s).eeu.ladder = l := by
  unfold setLadder
  (repeat' split) <;> simp_all

/-- The ladder returns to WORK (R151). -/
@[simp] theorem ladderReturn_frame (s : State) :
    (ladderReturn s).pending = s.pending ∧ (ladderReturn s).now = s.now ∧ (ladderReturn s).draws = s.draws ∧
    (ladderReturn s).power = s.power ∧ (ladderReturn s).clock = s.clock ∧ (ladderReturn s).store = s.store ∧
    (ladderReturn s).mdc = s.mdc ∧ (ladderReturn s).siu = s.siu ∧ (ladderReturn s).gmu = s.gmu ∧
    (ladderReturn s).plu = s.plu ∧ (ladderReturn s).evu = s.evu ∧
    (ladderReturn s).eeu.engineCount = s.eeu.engineCount ∧ (ladderReturn s).eeu.accumulator = s.eeu.accumulator ∧
    (ladderReturn s).eeu.average = s.eeu.average ∧ (ladderReturn s).eeu.joinHold = s.eeu.joinHold ∧
    (ladderReturn s).eeu.leaveHold = s.eeu.leaveHold ∧ (ladderReturn s).eeu.idleHold = s.eeu.idleHold ∧
    (ladderReturn s).eeu.pumpDemand = s.eeu.pumpDemand ∧ (ladderReturn s).eeu.oilTemp = s.eeu.oilTemp ∧
    (ladderReturn s).eeu.warmup = s.eeu.warmup ∧ (ladderReturn s).eeu.effective = s.eeu.effective ∧
    (ladderReturn s).eeu.limit = s.eeu.limit ∧ (ladderReturn s).eeu.fuelRem = s.eeu.fuelRem ∧
    (ladderReturn s).eeu.fuelTimer = s.eeu.fuelTimer ∧ (ladderReturn s).eeu.feedTimer = s.eeu.feedTimer ∧
    (ladderReturn s).eeu.settings = s.eeu.settings ∧ (ladderReturn s).svu = s.svu ∧ (ladderReturn s).rts = s.rts ∧
    (ladderReturn s).lnc.ctlA = s.lnc.ctlA ∧ (ladderReturn s).lnc.ctlB = s.lnc.ctlB ∧
    (ladderReturn s).lnc.ctlS = s.lnc.ctlS ∧ (ladderReturn s).lnc.rateA = s.lnc.rateA ∧
    (ladderReturn s).lnc.rateB = s.lnc.rateB ∧ (ladderReturn s).lnc.rateS = s.lnc.rateS ∧
    (ladderReturn s).lnc.txGrant = s.lnc.txGrant ∧ (ladderReturn s).lnc.txReq1 = s.lnc.txReq1 ∧
    (ladderReturn s).lnc.txReq2 = s.lnc.txReq2 ∧ (ladderReturn s).lnc.txPose = s.lnc.txPose ∧
    (ladderReturn s).lnc.replies = s.lnc.replies ∧ (ladderReturn s).lnc.half = s.lnc.half ∧
    (ladderReturn s).lnc.lastNotice = s.lnc.lastNotice ∧ (ladderReturn s).lnc.pvcTimer = s.lnc.pvcTimer ∧
    (ladderReturn s).lnc.pvcSilent = s.lnc.pvcSilent ∧ (ladderReturn s).lnc.poseReport = s.lnc.poseReport ∧
    (ladderReturn s).lnc.latch = s.lnc.latch ∧ (ladderReturn s).lnc.commandCrc = s.lnc.commandCrc ∧
    (ladderReturn s).lnc.commandDropped = s.lnc.commandDropped := by
  simp only [ladderReturn]
  (repeat' split) <;> simp

/-- The shutdown delay compared (R149). -/
@[simp] theorem compareShutdown_frame (s : State) :
    (compareShutdown s).pending = s.pending ∧ (compareShutdown s).now = s.now ∧ (compareShutdown s).draws = s.draws ∧
    (compareShutdown s).power = s.power ∧ (compareShutdown s).clock = s.clock ∧ (compareShutdown s).store = s.store ∧
    (compareShutdown s).mdc = s.mdc ∧ (compareShutdown s).siu = s.siu ∧ (compareShutdown s).gmu = s.gmu ∧
    (compareShutdown s).plu = s.plu ∧ (compareShutdown s).evu = s.evu ∧
    (compareShutdown s).eeu.engineCount = s.eeu.engineCount ∧
    (compareShutdown s).eeu.accumulator = s.eeu.accumulator ∧ (compareShutdown s).eeu.average = s.eeu.average ∧
    (compareShutdown s).eeu.joinHold = s.eeu.joinHold ∧ (compareShutdown s).eeu.leaveHold = s.eeu.leaveHold ∧
    (compareShutdown s).eeu.idleHold = s.eeu.idleHold ∧ (compareShutdown s).eeu.pumpDemand = s.eeu.pumpDemand ∧
    (compareShutdown s).eeu.oilTemp = s.eeu.oilTemp ∧ (compareShutdown s).eeu.warmup = s.eeu.warmup ∧
    (compareShutdown s).eeu.effective = s.eeu.effective ∧ (compareShutdown s).eeu.limit = s.eeu.limit ∧
    (compareShutdown s).eeu.fuelRem = s.eeu.fuelRem ∧ (compareShutdown s).eeu.fuelTimer = s.eeu.fuelTimer ∧
    (compareShutdown s).eeu.feedTimer = s.eeu.feedTimer ∧ (compareShutdown s).eeu.settings = s.eeu.settings ∧
    (compareShutdown s).svu = s.svu ∧ (compareShutdown s).rts = s.rts ∧ (compareShutdown s).lnc.ctlA = s.lnc.ctlA ∧
    (compareShutdown s).lnc.ctlB = s.lnc.ctlB ∧ (compareShutdown s).lnc.ctlS = s.lnc.ctlS ∧
    (compareShutdown s).lnc.rateA = s.lnc.rateA ∧ (compareShutdown s).lnc.rateB = s.lnc.rateB ∧
    (compareShutdown s).lnc.rateS = s.lnc.rateS ∧ (compareShutdown s).lnc.txGrant = s.lnc.txGrant ∧
    (compareShutdown s).lnc.txReq1 = s.lnc.txReq1 ∧ (compareShutdown s).lnc.txReq2 = s.lnc.txReq2 ∧
    (compareShutdown s).lnc.txPose = s.lnc.txPose ∧ (compareShutdown s).lnc.replies = s.lnc.replies ∧
    (compareShutdown s).lnc.half = s.lnc.half ∧ (compareShutdown s).lnc.lastNotice = s.lnc.lastNotice ∧
    (compareShutdown s).lnc.pvcTimer = s.lnc.pvcTimer ∧ (compareShutdown s).lnc.pvcSilent = s.lnc.pvcSilent ∧
    (compareShutdown s).lnc.poseReport = s.lnc.poseReport ∧ (compareShutdown s).lnc.latch = s.lnc.latch ∧
    (compareShutdown s).lnc.commandCrc = s.lnc.commandCrc ∧
    (compareShutdown s).lnc.commandDropped = s.lnc.commandDropped := by
  simp only [compareShutdown]
  (repeat' split) <;> simp

/-- The auto-idle delay compared (R147). -/
@[simp] theorem compareAutoIdle_frame (s : State) :
    (compareAutoIdle s).pending = s.pending ∧ (compareAutoIdle s).now = s.now ∧ (compareAutoIdle s).draws = s.draws ∧
    (compareAutoIdle s).power = s.power ∧ (compareAutoIdle s).clock = s.clock ∧ (compareAutoIdle s).store = s.store ∧
    (compareAutoIdle s).mdc = s.mdc ∧ (compareAutoIdle s).siu = s.siu ∧ (compareAutoIdle s).gmu = s.gmu ∧
    (compareAutoIdle s).plu = s.plu ∧ (compareAutoIdle s).evu = s.evu ∧
    (compareAutoIdle s).eeu.engineCount = s.eeu.engineCount ∧
    (compareAutoIdle s).eeu.accumulator = s.eeu.accumulator ∧ (compareAutoIdle s).eeu.average = s.eeu.average ∧
    (compareAutoIdle s).eeu.joinHold = s.eeu.joinHold ∧ (compareAutoIdle s).eeu.leaveHold = s.eeu.leaveHold ∧
    (compareAutoIdle s).eeu.idleHold = s.eeu.idleHold ∧ (compareAutoIdle s).eeu.pumpDemand = s.eeu.pumpDemand ∧
    (compareAutoIdle s).eeu.oilTemp = s.eeu.oilTemp ∧ (compareAutoIdle s).eeu.warmup = s.eeu.warmup ∧
    (compareAutoIdle s).eeu.effective = s.eeu.effective ∧ (compareAutoIdle s).eeu.limit = s.eeu.limit ∧
    (compareAutoIdle s).eeu.fuelRem = s.eeu.fuelRem ∧ (compareAutoIdle s).eeu.fuelTimer = s.eeu.fuelTimer ∧
    (compareAutoIdle s).eeu.feedTimer = s.eeu.feedTimer ∧ (compareAutoIdle s).eeu.settings = s.eeu.settings ∧
    (compareAutoIdle s).svu = s.svu ∧ (compareAutoIdle s).rts = s.rts ∧ (compareAutoIdle s).lnc.ctlA = s.lnc.ctlA ∧
    (compareAutoIdle s).lnc.ctlB = s.lnc.ctlB ∧ (compareAutoIdle s).lnc.ctlS = s.lnc.ctlS ∧
    (compareAutoIdle s).lnc.rateA = s.lnc.rateA ∧ (compareAutoIdle s).lnc.rateB = s.lnc.rateB ∧
    (compareAutoIdle s).lnc.rateS = s.lnc.rateS ∧ (compareAutoIdle s).lnc.txGrant = s.lnc.txGrant ∧
    (compareAutoIdle s).lnc.txReq1 = s.lnc.txReq1 ∧ (compareAutoIdle s).lnc.txReq2 = s.lnc.txReq2 ∧
    (compareAutoIdle s).lnc.txPose = s.lnc.txPose ∧ (compareAutoIdle s).lnc.replies = s.lnc.replies ∧
    (compareAutoIdle s).lnc.half = s.lnc.half ∧ (compareAutoIdle s).lnc.lastNotice = s.lnc.lastNotice ∧
    (compareAutoIdle s).lnc.pvcTimer = s.lnc.pvcTimer ∧ (compareAutoIdle s).lnc.pvcSilent = s.lnc.pvcSilent ∧
    (compareAutoIdle s).lnc.poseReport = s.lnc.poseReport ∧ (compareAutoIdle s).lnc.latch = s.lnc.latch ∧
    (compareAutoIdle s).lnc.commandCrc = s.lnc.commandCrc ∧
    (compareAutoIdle s).lnc.commandDropped = s.lnc.commandDropped := by
  simp only [compareAutoIdle]
  (repeat' split) <;> simp

/-- The countdown held at 0 (R150). -/
@[simp] theorem settleCountdown_frame (s : State) :
    (settleCountdown s).pending = s.pending ∧ (settleCountdown s).now = s.now ∧ (settleCountdown s).draws = s.draws ∧
    (settleCountdown s).power = s.power ∧ (settleCountdown s).clock = s.clock ∧ (settleCountdown s).store = s.store ∧
    (settleCountdown s).mdc = s.mdc ∧ (settleCountdown s).siu = s.siu ∧ (settleCountdown s).gmu = s.gmu ∧
    (settleCountdown s).plu = s.plu ∧ (settleCountdown s).evu = s.evu ∧
    (settleCountdown s).eeu.engineCount = s.eeu.engineCount ∧
    (settleCountdown s).eeu.accumulator = s.eeu.accumulator ∧ (settleCountdown s).eeu.average = s.eeu.average ∧
    (settleCountdown s).eeu.joinHold = s.eeu.joinHold ∧ (settleCountdown s).eeu.leaveHold = s.eeu.leaveHold ∧
    (settleCountdown s).eeu.idleHold = s.eeu.idleHold ∧ (settleCountdown s).eeu.pumpDemand = s.eeu.pumpDemand ∧
    (settleCountdown s).eeu.oilTemp = s.eeu.oilTemp ∧ (settleCountdown s).eeu.warmup = s.eeu.warmup ∧
    (settleCountdown s).eeu.effective = s.eeu.effective ∧ (settleCountdown s).eeu.limit = s.eeu.limit ∧
    (settleCountdown s).eeu.fuelRem = s.eeu.fuelRem ∧ (settleCountdown s).eeu.fuelTimer = s.eeu.fuelTimer ∧
    (settleCountdown s).eeu.feedTimer = s.eeu.feedTimer ∧ (settleCountdown s).eeu.settings = s.eeu.settings ∧
    (settleCountdown s).svu = s.svu ∧ (settleCountdown s).rts = s.rts ∧ (settleCountdown s).lnc.ctlA = s.lnc.ctlA ∧
    (settleCountdown s).lnc.ctlB = s.lnc.ctlB ∧ (settleCountdown s).lnc.ctlS = s.lnc.ctlS ∧
    (settleCountdown s).lnc.rateA = s.lnc.rateA ∧ (settleCountdown s).lnc.rateB = s.lnc.rateB ∧
    (settleCountdown s).lnc.rateS = s.lnc.rateS ∧ (settleCountdown s).lnc.txGrant = s.lnc.txGrant ∧
    (settleCountdown s).lnc.txReq1 = s.lnc.txReq1 ∧ (settleCountdown s).lnc.txReq2 = s.lnc.txReq2 ∧
    (settleCountdown s).lnc.txPose = s.lnc.txPose ∧ (settleCountdown s).lnc.replies = s.lnc.replies ∧
    (settleCountdown s).lnc.half = s.lnc.half ∧ (settleCountdown s).lnc.lastNotice = s.lnc.lastNotice ∧
    (settleCountdown s).lnc.pvcTimer = s.lnc.pvcTimer ∧ (settleCountdown s).lnc.pvcSilent = s.lnc.pvcSilent ∧
    (settleCountdown s).lnc.poseReport = s.lnc.poseReport ∧ (settleCountdown s).lnc.latch = s.lnc.latch ∧
    (settleCountdown s).lnc.commandCrc = s.lnc.commandCrc ∧
    (settleCountdown s).lnc.commandDropped = s.lnc.commandDropped := by
  simp only [settleCountdown]
  (repeat' split) <;> simp

/-- The two level timers (R147, R148). -/
@[simp] theorem settleLadderTimers_frame (s : State) :
    (settleLadderTimers s).pending = s.pending ∧ (settleLadderTimers s).now = s.now ∧
    (settleLadderTimers s).draws = s.draws ∧ (settleLadderTimers s).power = s.power ∧
    (settleLadderTimers s).clock = s.clock ∧ (settleLadderTimers s).store = s.store ∧
    (settleLadderTimers s).mdc = s.mdc ∧ (settleLadderTimers s).siu = s.siu ∧ (settleLadderTimers s).gmu = s.gmu ∧
    (settleLadderTimers s).plu = s.plu ∧ (settleLadderTimers s).evu = s.evu ∧
    (settleLadderTimers s).eeu.slot1 = s.eeu.slot1 ∧ (settleLadderTimers s).eeu.slot2 = s.eeu.slot2 ∧
    (settleLadderTimers s).eeu.engineCount = s.eeu.engineCount ∧
    (settleLadderTimers s).eeu.accumulator = s.eeu.accumulator ∧ (settleLadderTimers s).eeu.average = s.eeu.average ∧
    (settleLadderTimers s).eeu.joinHold = s.eeu.joinHold ∧ (settleLadderTimers s).eeu.leaveHold = s.eeu.leaveHold ∧
    (settleLadderTimers s).eeu.ladder = s.eeu.ladder ∧
    (settleLadderTimers s).eeu.shutdownDelay = s.eeu.shutdownDelay ∧
    (settleLadderTimers s).eeu.countdown = s.eeu.countdown ∧ (settleLadderTimers s).eeu.idleHold = s.eeu.idleHold ∧
    (settleLadderTimers s).eeu.pumpDemand = s.eeu.pumpDemand ∧ (settleLadderTimers s).eeu.oilTemp = s.eeu.oilTemp ∧
    (settleLadderTimers s).eeu.warmup = s.eeu.warmup ∧ (settleLadderTimers s).eeu.effective = s.eeu.effective ∧
    (settleLadderTimers s).eeu.limit = s.eeu.limit ∧ (settleLadderTimers s).eeu.fuelRem = s.eeu.fuelRem ∧
    (settleLadderTimers s).eeu.fuelTimer = s.eeu.fuelTimer ∧ (settleLadderTimers s).eeu.feedTimer = s.eeu.feedTimer ∧
    (settleLadderTimers s).eeu.settings = s.eeu.settings ∧ (settleLadderTimers s).svu = s.svu ∧
    (settleLadderTimers s).rts = s.rts ∧ (settleLadderTimers s).lnc = s.lnc := by
  simp [settleLadderTimers]

/-- The effective mode (R158). -/
@[simp] theorem settleMode_frame (s : State) :
    (settleMode s).pending = s.pending ∧ (settleMode s).now = s.now ∧ (settleMode s).draws = s.draws ∧
    (settleMode s).power = s.power ∧ (settleMode s).clock = s.clock ∧ (settleMode s).store = s.store ∧
    (settleMode s).mdc = s.mdc ∧ (settleMode s).siu = s.siu ∧ (settleMode s).gmu = s.gmu ∧
    (settleMode s).plu = s.plu ∧ (settleMode s).evu = s.evu ∧ (settleMode s).eeu.slot1 = s.eeu.slot1 ∧
    (settleMode s).eeu.slot2 = s.eeu.slot2 ∧ (settleMode s).eeu.engineCount = s.eeu.engineCount ∧
    (settleMode s).eeu.accumulator = s.eeu.accumulator ∧ (settleMode s).eeu.average = s.eeu.average ∧
    (settleMode s).eeu.joinHold = s.eeu.joinHold ∧ (settleMode s).eeu.leaveHold = s.eeu.leaveHold ∧
    (settleMode s).eeu.ladder = s.eeu.ladder ∧ (settleMode s).eeu.autoIdle = s.eeu.autoIdle ∧
    (settleMode s).eeu.lockoutTimer = s.eeu.lockoutTimer ∧ (settleMode s).eeu.shutdownDelay = s.eeu.shutdownDelay ∧
    (settleMode s).eeu.countdown = s.eeu.countdown ∧ (settleMode s).eeu.idleHold = s.eeu.idleHold ∧
    (settleMode s).eeu.pumpDemand = s.eeu.pumpDemand ∧ (settleMode s).eeu.oilTemp = s.eeu.oilTemp ∧
    (settleMode s).eeu.warmup = s.eeu.warmup ∧ (settleMode s).eeu.limit = s.eeu.limit ∧
    (settleMode s).eeu.fuelRem = s.eeu.fuelRem ∧ (settleMode s).eeu.fuelTimer = s.eeu.fuelTimer ∧
    (settleMode s).eeu.feedTimer = s.eeu.feedTimer ∧ (settleMode s).eeu.settings = s.eeu.settings ∧
    (settleMode s).svu = s.svu ∧ (settleMode s).rts = s.rts ∧ (settleMode s).lnc.ctlA = s.lnc.ctlA ∧
    (settleMode s).lnc.ctlB = s.lnc.ctlB ∧ (settleMode s).lnc.ctlS = s.lnc.ctlS ∧
    (settleMode s).lnc.rateA = s.lnc.rateA ∧ (settleMode s).lnc.rateB = s.lnc.rateB ∧
    (settleMode s).lnc.rateS = s.lnc.rateS ∧ (settleMode s).lnc.txGrant = s.lnc.txGrant ∧
    (settleMode s).lnc.txReq1 = s.lnc.txReq1 ∧ (settleMode s).lnc.txReq2 = s.lnc.txReq2 ∧
    (settleMode s).lnc.txPose = s.lnc.txPose ∧ (settleMode s).lnc.replies = s.lnc.replies ∧
    (settleMode s).lnc.half = s.lnc.half ∧ (settleMode s).lnc.lastNotice = s.lnc.lastNotice ∧
    (settleMode s).lnc.pvcTimer = s.lnc.pvcTimer ∧ (settleMode s).lnc.pvcSilent = s.lnc.pvcSilent ∧
    (settleMode s).lnc.poseReport = s.lnc.poseReport ∧ (settleMode s).lnc.latch = s.lnc.latch ∧
    (settleMode s).lnc.commandCrc = s.lnc.commandCrc ∧ (settleMode s).lnc.commandDropped = s.lnc.commandDropped := by
  simp only [settleMode]
  (repeat' split) <;> simp

/-- The two hold timers (R141, R142). -/
@[simp] theorem settleHolds_frame (s : State) :
    (settleHolds s).pending = s.pending ∧ (settleHolds s).now = s.now ∧ (settleHolds s).draws = s.draws ∧
    (settleHolds s).power = s.power ∧ (settleHolds s).clock = s.clock ∧ (settleHolds s).store = s.store ∧
    (settleHolds s).mdc = s.mdc ∧ (settleHolds s).siu = s.siu ∧ (settleHolds s).gmu = s.gmu ∧
    (settleHolds s).plu = s.plu ∧ (settleHolds s).evu = s.evu ∧ (settleHolds s).eeu.slot1 = s.eeu.slot1 ∧
    (settleHolds s).eeu.slot2 = s.eeu.slot2 ∧ (settleHolds s).eeu.engineCount = s.eeu.engineCount ∧
    (settleHolds s).eeu.accumulator = s.eeu.accumulator ∧ (settleHolds s).eeu.average = s.eeu.average ∧
    (settleHolds s).eeu.ladder = s.eeu.ladder ∧ (settleHolds s).eeu.autoIdle = s.eeu.autoIdle ∧
    (settleHolds s).eeu.lockoutTimer = s.eeu.lockoutTimer ∧ (settleHolds s).eeu.shutdownDelay = s.eeu.shutdownDelay ∧
    (settleHolds s).eeu.countdown = s.eeu.countdown ∧ (settleHolds s).eeu.idleHold = s.eeu.idleHold ∧
    (settleHolds s).eeu.pumpDemand = s.eeu.pumpDemand ∧ (settleHolds s).eeu.oilTemp = s.eeu.oilTemp ∧
    (settleHolds s).eeu.warmup = s.eeu.warmup ∧ (settleHolds s).eeu.effective = s.eeu.effective ∧
    (settleHolds s).eeu.limit = s.eeu.limit ∧ (settleHolds s).eeu.fuelRem = s.eeu.fuelRem ∧
    (settleHolds s).eeu.fuelTimer = s.eeu.fuelTimer ∧ (settleHolds s).eeu.feedTimer = s.eeu.feedTimer ∧
    (settleHolds s).eeu.settings = s.eeu.settings ∧ (settleHolds s).svu = s.svu ∧ (settleHolds s).rts = s.rts ∧
    (settleHolds s).lnc = s.lnc := by
  simp [settleHolds]

/-- One slot takes its transition (R135 to R143). -/
@[simp] theorem slotStep_frame (e : Engine) (s : State) :
    (slotStep e s).pending = s.pending ∧ (slotStep e s).now = s.now ∧ (slotStep e s).draws = s.draws ∧
    (slotStep e s).power = s.power ∧ (slotStep e s).clock = s.clock ∧ (slotStep e s).store = s.store ∧
    (slotStep e s).mdc = s.mdc ∧ (slotStep e s).siu = s.siu ∧ (slotStep e s).gmu = s.gmu ∧
    (slotStep e s).plu = s.plu ∧ (slotStep e s).evu = s.evu ∧ (slotStep e s).eeu.engineCount = s.eeu.engineCount ∧
    (slotStep e s).eeu.accumulator = s.eeu.accumulator ∧ (slotStep e s).eeu.average = s.eeu.average ∧
    (slotStep e s).eeu.joinHold = s.eeu.joinHold ∧ (slotStep e s).eeu.leaveHold = s.eeu.leaveHold ∧
    (slotStep e s).eeu.ladder = s.eeu.ladder ∧ (slotStep e s).eeu.autoIdle = s.eeu.autoIdle ∧
    (slotStep e s).eeu.lockoutTimer = s.eeu.lockoutTimer ∧ (slotStep e s).eeu.shutdownDelay = s.eeu.shutdownDelay ∧
    (slotStep e s).eeu.countdown = s.eeu.countdown ∧ (slotStep e s).eeu.idleHold = s.eeu.idleHold ∧
    (slotStep e s).eeu.pumpDemand = s.eeu.pumpDemand ∧ (slotStep e s).eeu.oilTemp = s.eeu.oilTemp ∧
    (slotStep e s).eeu.warmup = s.eeu.warmup ∧ (slotStep e s).eeu.effective = s.eeu.effective ∧
    (slotStep e s).eeu.limit = s.eeu.limit ∧ (slotStep e s).eeu.fuelRem = s.eeu.fuelRem ∧
    (slotStep e s).eeu.fuelTimer = s.eeu.fuelTimer ∧ (slotStep e s).eeu.feedTimer = s.eeu.feedTimer ∧
    (slotStep e s).eeu.settings = s.eeu.settings ∧ (slotStep e s).svu = s.svu ∧ (slotStep e s).rts = s.rts ∧
    (slotStep e s).lnc.ctlA = s.lnc.ctlA ∧ (slotStep e s).lnc.ctlB = s.lnc.ctlB ∧
    (slotStep e s).lnc.ctlS = s.lnc.ctlS ∧ (slotStep e s).lnc.rateA = s.lnc.rateA ∧
    (slotStep e s).lnc.rateB = s.lnc.rateB ∧ (slotStep e s).lnc.rateS = s.lnc.rateS ∧
    (slotStep e s).lnc.txGrant = s.lnc.txGrant ∧ (slotStep e s).lnc.txReq1 = s.lnc.txReq1 ∧
    (slotStep e s).lnc.txReq2 = s.lnc.txReq2 ∧ (slotStep e s).lnc.txPose = s.lnc.txPose ∧
    (slotStep e s).lnc.replies = s.lnc.replies ∧ (slotStep e s).lnc.half = s.lnc.half ∧
    (slotStep e s).lnc.lastNotice = s.lnc.lastNotice ∧ (slotStep e s).lnc.pvcTimer = s.lnc.pvcTimer ∧
    (slotStep e s).lnc.pvcSilent = s.lnc.pvcSilent ∧ (slotStep e s).lnc.poseReport = s.lnc.poseReport ∧
    (slotStep e s).lnc.latch = s.lnc.latch ∧ (slotStep e s).lnc.commandCrc = s.lnc.commandCrc ∧
    (slotStep e s).lnc.commandDropped = s.lnc.commandDropped := by
  simp only [slotStep]
  (repeat' split) <;> simp

/-- One round over both slots. -/
@[simp] theorem slotRound_frame (s : State) :
    (slotRound s).pending = s.pending ∧ (slotRound s).now = s.now ∧ (slotRound s).draws = s.draws ∧
    (slotRound s).power = s.power ∧ (slotRound s).clock = s.clock ∧ (slotRound s).store = s.store ∧
    (slotRound s).mdc = s.mdc ∧ (slotRound s).siu = s.siu ∧ (slotRound s).gmu = s.gmu ∧ (slotRound s).plu = s.plu ∧
    (slotRound s).evu = s.evu ∧ (slotRound s).eeu.engineCount = s.eeu.engineCount ∧
    (slotRound s).eeu.accumulator = s.eeu.accumulator ∧ (slotRound s).eeu.average = s.eeu.average ∧
    (slotRound s).eeu.ladder = s.eeu.ladder ∧ (slotRound s).eeu.autoIdle = s.eeu.autoIdle ∧
    (slotRound s).eeu.lockoutTimer = s.eeu.lockoutTimer ∧ (slotRound s).eeu.shutdownDelay = s.eeu.shutdownDelay ∧
    (slotRound s).eeu.countdown = s.eeu.countdown ∧ (slotRound s).eeu.idleHold = s.eeu.idleHold ∧
    (slotRound s).eeu.pumpDemand = s.eeu.pumpDemand ∧ (slotRound s).eeu.oilTemp = s.eeu.oilTemp ∧
    (slotRound s).eeu.warmup = s.eeu.warmup ∧ (slotRound s).eeu.effective = s.eeu.effective ∧
    (slotRound s).eeu.limit = s.eeu.limit ∧ (slotRound s).eeu.fuelRem = s.eeu.fuelRem ∧
    (slotRound s).eeu.fuelTimer = s.eeu.fuelTimer ∧ (slotRound s).eeu.feedTimer = s.eeu.feedTimer ∧
    (slotRound s).eeu.settings = s.eeu.settings ∧ (slotRound s).svu = s.svu ∧ (slotRound s).rts = s.rts ∧
    (slotRound s).lnc.ctlA = s.lnc.ctlA ∧ (slotRound s).lnc.ctlB = s.lnc.ctlB ∧ (slotRound s).lnc.ctlS = s.lnc.ctlS ∧
    (slotRound s).lnc.rateA = s.lnc.rateA ∧ (slotRound s).lnc.rateB = s.lnc.rateB ∧
    (slotRound s).lnc.rateS = s.lnc.rateS ∧ (slotRound s).lnc.txGrant = s.lnc.txGrant ∧
    (slotRound s).lnc.txReq1 = s.lnc.txReq1 ∧ (slotRound s).lnc.txReq2 = s.lnc.txReq2 ∧
    (slotRound s).lnc.txPose = s.lnc.txPose ∧ (slotRound s).lnc.replies = s.lnc.replies ∧
    (slotRound s).lnc.half = s.lnc.half ∧ (slotRound s).lnc.lastNotice = s.lnc.lastNotice ∧
    (slotRound s).lnc.pvcTimer = s.lnc.pvcTimer ∧ (slotRound s).lnc.pvcSilent = s.lnc.pvcSilent ∧
    (slotRound s).lnc.poseReport = s.lnc.poseReport ∧ (slotRound s).lnc.latch = s.lnc.latch ∧
    (slotRound s).lnc.commandCrc = s.lnc.commandCrc ∧ (slotRound s).lnc.commandDropped = s.lnc.commandDropped := by
  simp [slotRound]

/-- The Engine Economy Unit settled at the end of an event. -/
@[simp] theorem eeuSettle_frame (s : State) :
    (eeuSettle s).pending = s.pending ∧ (eeuSettle s).now = s.now ∧ (eeuSettle s).draws = s.draws ∧
    (eeuSettle s).power = s.power ∧ (eeuSettle s).clock = s.clock ∧ (eeuSettle s).store = s.store ∧
    (eeuSettle s).mdc = s.mdc ∧ (eeuSettle s).siu = s.siu ∧ (eeuSettle s).gmu = s.gmu ∧ (eeuSettle s).plu = s.plu ∧
    (eeuSettle s).evu = s.evu ∧ (eeuSettle s).eeu.engineCount = s.eeu.engineCount ∧
    (eeuSettle s).eeu.accumulator = s.eeu.accumulator ∧ (eeuSettle s).eeu.average = s.eeu.average ∧
    (eeuSettle s).eeu.idleHold = s.eeu.idleHold ∧ (eeuSettle s).eeu.pumpDemand = s.eeu.pumpDemand ∧
    (eeuSettle s).eeu.oilTemp = s.eeu.oilTemp ∧ (eeuSettle s).eeu.warmup = s.eeu.warmup ∧
    (eeuSettle s).eeu.fuelRem = s.eeu.fuelRem ∧ (eeuSettle s).eeu.fuelTimer = s.eeu.fuelTimer ∧
    (eeuSettle s).eeu.feedTimer = s.eeu.feedTimer ∧ (eeuSettle s).eeu.settings = s.eeu.settings ∧
    (eeuSettle s).svu = s.svu ∧ (eeuSettle s).rts = s.rts ∧ (eeuSettle s).lnc.ctlA = s.lnc.ctlA ∧
    (eeuSettle s).lnc.ctlB = s.lnc.ctlB ∧ (eeuSettle s).lnc.ctlS = s.lnc.ctlS ∧
    (eeuSettle s).lnc.rateA = s.lnc.rateA ∧ (eeuSettle s).lnc.rateB = s.lnc.rateB ∧
    (eeuSettle s).lnc.rateS = s.lnc.rateS ∧ (eeuSettle s).lnc.txGrant = s.lnc.txGrant ∧
    (eeuSettle s).lnc.txReq1 = s.lnc.txReq1 ∧ (eeuSettle s).lnc.txReq2 = s.lnc.txReq2 ∧
    (eeuSettle s).lnc.txPose = s.lnc.txPose ∧ (eeuSettle s).lnc.replies = s.lnc.replies ∧
    (eeuSettle s).lnc.half = s.lnc.half ∧ (eeuSettle s).lnc.lastNotice = s.lnc.lastNotice ∧
    (eeuSettle s).lnc.pvcTimer = s.lnc.pvcTimer ∧ (eeuSettle s).lnc.pvcSilent = s.lnc.pvcSilent ∧
    (eeuSettle s).lnc.poseReport = s.lnc.poseReport ∧ (eeuSettle s).lnc.latch = s.lnc.latch ∧
    (eeuSettle s).lnc.commandCrc = s.lnc.commandCrc ∧ (eeuSettle s).lnc.commandDropped = s.lnc.commandDropped := by
  simp [eeuSettle, Nat.repeat]

/-- A request in its buffer (R181). -/
@[simp] theorem bufferRequest_frame (e : Engine) (r : Option EngineRequest) (s : State) :
    (bufferRequest e r s).pending = s.pending ∧ (bufferRequest e r s).now = s.now ∧
    (bufferRequest e r s).draws = s.draws ∧ (bufferRequest e r s).power = s.power ∧
    (bufferRequest e r s).clock = s.clock ∧ (bufferRequest e r s).store = s.store ∧
    (bufferRequest e r s).mdc = s.mdc ∧ (bufferRequest e r s).siu = s.siu ∧ (bufferRequest e r s).gmu = s.gmu ∧
    (bufferRequest e r s).plu = s.plu ∧ (bufferRequest e r s).evu = s.evu ∧ (bufferRequest e r s).eeu = s.eeu ∧
    (bufferRequest e r s).svu = s.svu ∧ (bufferRequest e r s).rts = s.rts ∧
    (bufferRequest e r s).lnc.ctlA = s.lnc.ctlA ∧ (bufferRequest e r s).lnc.ctlB = s.lnc.ctlB ∧
    (bufferRequest e r s).lnc.ctlS = s.lnc.ctlS ∧ (bufferRequest e r s).lnc.rateA = s.lnc.rateA ∧
    (bufferRequest e r s).lnc.rateB = s.lnc.rateB ∧ (bufferRequest e r s).lnc.rateS = s.lnc.rateS ∧
    (bufferRequest e r s).lnc.txGrant = s.lnc.txGrant ∧ (bufferRequest e r s).lnc.txPose = s.lnc.txPose ∧
    (bufferRequest e r s).lnc.replies = s.lnc.replies ∧ (bufferRequest e r s).lnc.half = s.lnc.half ∧
    (bufferRequest e r s).lnc.notices = s.lnc.notices ∧ (bufferRequest e r s).lnc.lastNotice = s.lnc.lastNotice ∧
    (bufferRequest e r s).lnc.pvcTimer = s.lnc.pvcTimer ∧ (bufferRequest e r s).lnc.pvcSilent = s.lnc.pvcSilent ∧
    (bufferRequest e r s).lnc.poseReport = s.lnc.poseReport ∧ (bufferRequest e r s).lnc.latch = s.lnc.latch ∧
    (bufferRequest e r s).lnc.commandCrc = s.lnc.commandCrc ∧
    (bufferRequest e r s).lnc.commandDropped = s.lnc.commandDropped ∧
    (bufferRequest e r s).lnc.noticeOverflow = s.lnc.noticeOverflow := by
  cases e <;> simp [bufferRequest]

/-- A request handed over (R131). -/
@[simp] theorem handRequest_frame (e : Engine) (s : State) :
    (handRequest e s).pending = s.pending ∧ (handRequest e s).now = s.now ∧ (handRequest e s).draws = s.draws ∧
    (handRequest e s).power = s.power ∧ (handRequest e s).clock = s.clock ∧ (handRequest e s).store = s.store ∧
    (handRequest e s).mdc = s.mdc ∧ (handRequest e s).siu = s.siu ∧ (handRequest e s).gmu = s.gmu ∧
    (handRequest e s).plu = s.plu ∧ (handRequest e s).evu = s.evu ∧
    (handRequest e s).eeu.engineCount = s.eeu.engineCount ∧ (handRequest e s).eeu.accumulator = s.eeu.accumulator ∧
    (handRequest e s).eeu.average = s.eeu.average ∧ (handRequest e s).eeu.joinHold = s.eeu.joinHold ∧
    (handRequest e s).eeu.leaveHold = s.eeu.leaveHold ∧ (handRequest e s).eeu.ladder = s.eeu.ladder ∧
    (handRequest e s).eeu.autoIdle = s.eeu.autoIdle ∧ (handRequest e s).eeu.lockoutTimer = s.eeu.lockoutTimer ∧
    (handRequest e s).eeu.shutdownDelay = s.eeu.shutdownDelay ∧ (handRequest e s).eeu.countdown = s.eeu.countdown ∧
    (handRequest e s).eeu.idleHold = s.eeu.idleHold ∧ (handRequest e s).eeu.pumpDemand = s.eeu.pumpDemand ∧
    (handRequest e s).eeu.oilTemp = s.eeu.oilTemp ∧ (handRequest e s).eeu.warmup = s.eeu.warmup ∧
    (handRequest e s).eeu.effective = s.eeu.effective ∧ (handRequest e s).eeu.limit = s.eeu.limit ∧
    (handRequest e s).eeu.fuelRem = s.eeu.fuelRem ∧ (handRequest e s).eeu.fuelTimer = s.eeu.fuelTimer ∧
    (handRequest e s).eeu.feedTimer = s.eeu.feedTimer ∧ (handRequest e s).eeu.settings = s.eeu.settings ∧
    (handRequest e s).svu = s.svu ∧ (handRequest e s).rts = s.rts ∧ (handRequest e s).lnc.ctlA = s.lnc.ctlA ∧
    (handRequest e s).lnc.ctlB = s.lnc.ctlB ∧ (handRequest e s).lnc.ctlS = s.lnc.ctlS ∧
    (handRequest e s).lnc.rateA = s.lnc.rateA ∧ (handRequest e s).lnc.rateB = s.lnc.rateB ∧
    (handRequest e s).lnc.rateS = s.lnc.rateS ∧ (handRequest e s).lnc.txGrant = s.lnc.txGrant ∧
    (handRequest e s).lnc.txPose = s.lnc.txPose ∧ (handRequest e s).lnc.replies = s.lnc.replies ∧
    (handRequest e s).lnc.half = s.lnc.half ∧ (handRequest e s).lnc.notices = s.lnc.notices ∧
    (handRequest e s).lnc.lastNotice = s.lnc.lastNotice ∧ (handRequest e s).lnc.pvcTimer = s.lnc.pvcTimer ∧
    (handRequest e s).lnc.pvcSilent = s.lnc.pvcSilent ∧ (handRequest e s).lnc.poseReport = s.lnc.poseReport ∧
    (handRequest e s).lnc.latch = s.lnc.latch ∧ (handRequest e s).lnc.commandCrc = s.lnc.commandCrc ∧
    (handRequest e s).lnc.commandDropped = s.lnc.commandDropped ∧
    (handRequest e s).lnc.noticeOverflow = s.lnc.noticeOverflow := by
  simp [handRequest]

/-- A changed request handed over (R131). -/
@[simp] theorem settleRequest_frame (e : Engine) (s : State) :
    (settleRequest e s).pending = s.pending ∧ (settleRequest e s).now = s.now ∧ (settleRequest e s).draws = s.draws ∧
    (settleRequest e s).power = s.power ∧ (settleRequest e s).clock = s.clock ∧ (settleRequest e s).store = s.store ∧
    (settleRequest e s).mdc = s.mdc ∧ (settleRequest e s).siu = s.siu ∧ (settleRequest e s).gmu = s.gmu ∧
    (settleRequest e s).plu = s.plu ∧ (settleRequest e s).evu = s.evu ∧
    (settleRequest e s).eeu.engineCount = s.eeu.engineCount ∧
    (settleRequest e s).eeu.accumulator = s.eeu.accumulator ∧ (settleRequest e s).eeu.average = s.eeu.average ∧
    (settleRequest e s).eeu.joinHold = s.eeu.joinHold ∧ (settleRequest e s).eeu.leaveHold = s.eeu.leaveHold ∧
    (settleRequest e s).eeu.ladder = s.eeu.ladder ∧ (settleRequest e s).eeu.autoIdle = s.eeu.autoIdle ∧
    (settleRequest e s).eeu.lockoutTimer = s.eeu.lockoutTimer ∧
    (settleRequest e s).eeu.shutdownDelay = s.eeu.shutdownDelay ∧
    (settleRequest e s).eeu.countdown = s.eeu.countdown ∧ (settleRequest e s).eeu.idleHold = s.eeu.idleHold ∧
    (settleRequest e s).eeu.pumpDemand = s.eeu.pumpDemand ∧ (settleRequest e s).eeu.oilTemp = s.eeu.oilTemp ∧
    (settleRequest e s).eeu.warmup = s.eeu.warmup ∧ (settleRequest e s).eeu.effective = s.eeu.effective ∧
    (settleRequest e s).eeu.limit = s.eeu.limit ∧ (settleRequest e s).eeu.fuelRem = s.eeu.fuelRem ∧
    (settleRequest e s).eeu.fuelTimer = s.eeu.fuelTimer ∧ (settleRequest e s).eeu.feedTimer = s.eeu.feedTimer ∧
    (settleRequest e s).eeu.settings = s.eeu.settings ∧ (settleRequest e s).svu = s.svu ∧
    (settleRequest e s).rts = s.rts ∧ (settleRequest e s).lnc.ctlA = s.lnc.ctlA ∧
    (settleRequest e s).lnc.ctlB = s.lnc.ctlB ∧ (settleRequest e s).lnc.ctlS = s.lnc.ctlS ∧
    (settleRequest e s).lnc.rateA = s.lnc.rateA ∧ (settleRequest e s).lnc.rateB = s.lnc.rateB ∧
    (settleRequest e s).lnc.rateS = s.lnc.rateS ∧ (settleRequest e s).lnc.txGrant = s.lnc.txGrant ∧
    (settleRequest e s).lnc.txPose = s.lnc.txPose ∧ (settleRequest e s).lnc.replies = s.lnc.replies ∧
    (settleRequest e s).lnc.half = s.lnc.half ∧ (settleRequest e s).lnc.notices = s.lnc.notices ∧
    (settleRequest e s).lnc.lastNotice = s.lnc.lastNotice ∧ (settleRequest e s).lnc.pvcTimer = s.lnc.pvcTimer ∧
    (settleRequest e s).lnc.pvcSilent = s.lnc.pvcSilent ∧ (settleRequest e s).lnc.poseReport = s.lnc.poseReport ∧
    (settleRequest e s).lnc.latch = s.lnc.latch ∧ (settleRequest e s).lnc.commandCrc = s.lnc.commandCrc ∧
    (settleRequest e s).lnc.commandDropped = s.lnc.commandDropped ∧
    (settleRequest e s).lnc.noticeOverflow = s.lnc.noticeOverflow := by
  simp only [settleRequest]
  (repeat' split) <;> simp

/-- Both requests (R131). -/
@[simp] theorem settleRequests_frame (s : State) :
    (settleRequests s).pending = s.pending ∧ (settleRequests s).now = s.now ∧ (settleRequests s).draws = s.draws ∧
    (settleRequests s).power = s.power ∧ (settleRequests s).clock = s.clock ∧ (settleRequests s).store = s.store ∧
    (settleRequests s).mdc = s.mdc ∧ (settleRequests s).siu = s.siu ∧ (settleRequests s).gmu = s.gmu ∧
    (settleRequests s).plu = s.plu ∧ (settleRequests s).evu = s.evu ∧
    (settleRequests s).eeu.engineCount = s.eeu.engineCount ∧ (settleRequests s).eeu.accumulator = s.eeu.accumulator ∧
    (settleRequests s).eeu.average = s.eeu.average ∧ (settleRequests s).eeu.joinHold = s.eeu.joinHold ∧
    (settleRequests s).eeu.leaveHold = s.eeu.leaveHold ∧ (settleRequests s).eeu.ladder = s.eeu.ladder ∧
    (settleRequests s).eeu.autoIdle = s.eeu.autoIdle ∧ (settleRequests s).eeu.lockoutTimer = s.eeu.lockoutTimer ∧
    (settleRequests s).eeu.shutdownDelay = s.eeu.shutdownDelay ∧ (settleRequests s).eeu.countdown = s.eeu.countdown ∧
    (settleRequests s).eeu.idleHold = s.eeu.idleHold ∧ (settleRequests s).eeu.pumpDemand = s.eeu.pumpDemand ∧
    (settleRequests s).eeu.oilTemp = s.eeu.oilTemp ∧ (settleRequests s).eeu.warmup = s.eeu.warmup ∧
    (settleRequests s).eeu.effective = s.eeu.effective ∧ (settleRequests s).eeu.limit = s.eeu.limit ∧
    (settleRequests s).eeu.fuelRem = s.eeu.fuelRem ∧ (settleRequests s).eeu.fuelTimer = s.eeu.fuelTimer ∧
    (settleRequests s).eeu.feedTimer = s.eeu.feedTimer ∧ (settleRequests s).eeu.settings = s.eeu.settings ∧
    (settleRequests s).svu = s.svu ∧ (settleRequests s).rts = s.rts ∧ (settleRequests s).lnc.ctlA = s.lnc.ctlA ∧
    (settleRequests s).lnc.ctlB = s.lnc.ctlB ∧ (settleRequests s).lnc.ctlS = s.lnc.ctlS ∧
    (settleRequests s).lnc.rateA = s.lnc.rateA ∧ (settleRequests s).lnc.rateB = s.lnc.rateB ∧
    (settleRequests s).lnc.rateS = s.lnc.rateS ∧ (settleRequests s).lnc.txGrant = s.lnc.txGrant ∧
    (settleRequests s).lnc.txPose = s.lnc.txPose ∧ (settleRequests s).lnc.replies = s.lnc.replies ∧
    (settleRequests s).lnc.half = s.lnc.half ∧ (settleRequests s).lnc.notices = s.lnc.notices ∧
    (settleRequests s).lnc.lastNotice = s.lnc.lastNotice ∧ (settleRequests s).lnc.pvcTimer = s.lnc.pvcTimer ∧
    (settleRequests s).lnc.pvcSilent = s.lnc.pvcSilent ∧ (settleRequests s).lnc.poseReport = s.lnc.poseReport ∧
    (settleRequests s).lnc.latch = s.lnc.latch ∧ (settleRequests s).lnc.commandCrc = s.lnc.commandCrc ∧
    (settleRequests s).lnc.commandDropped = s.lnc.commandDropped ∧
    (settleRequests s).lnc.noticeOverflow = s.lnc.noticeOverflow := by
  simp [settleRequests]

/-- START_FAILED (R135). -/
@[simp] theorem startFailed_frame (e : Engine) (s : State) :
    (startFailed e s).pending = s.pending ∧ (startFailed e s).now = s.now ∧ (startFailed e s).draws = s.draws ∧
    (startFailed e s).power = s.power ∧ (startFailed e s).clock = s.clock ∧ (startFailed e s).store = s.store ∧
    (startFailed e s).mdc = s.mdc ∧ (startFailed e s).siu = s.siu ∧ (startFailed e s).gmu = s.gmu ∧
    (startFailed e s).plu = s.plu ∧ (startFailed e s).evu = s.evu ∧ (startFailed e s).eeu = s.eeu ∧
    (startFailed e s).svu = s.svu ∧ (startFailed e s).rts = s.rts ∧ (startFailed e s).lnc.ctlA = s.lnc.ctlA ∧
    (startFailed e s).lnc.ctlB = s.lnc.ctlB ∧ (startFailed e s).lnc.ctlS = s.lnc.ctlS ∧
    (startFailed e s).lnc.rateA = s.lnc.rateA ∧ (startFailed e s).lnc.rateB = s.lnc.rateB ∧
    (startFailed e s).lnc.rateS = s.lnc.rateS ∧ (startFailed e s).lnc.txGrant = s.lnc.txGrant ∧
    (startFailed e s).lnc.txReq1 = s.lnc.txReq1 ∧ (startFailed e s).lnc.txReq2 = s.lnc.txReq2 ∧
    (startFailed e s).lnc.txPose = s.lnc.txPose ∧ (startFailed e s).lnc.replies = s.lnc.replies ∧
    (startFailed e s).lnc.half = s.lnc.half ∧ (startFailed e s).lnc.lastNotice = s.lnc.lastNotice ∧
    (startFailed e s).lnc.pvcTimer = s.lnc.pvcTimer ∧ (startFailed e s).lnc.pvcSilent = s.lnc.pvcSilent ∧
    (startFailed e s).lnc.poseReport = s.lnc.poseReport ∧ (startFailed e s).lnc.latch = s.lnc.latch ∧
    (startFailed e s).lnc.commandCrc = s.lnc.commandCrc ∧
    (startFailed e s).lnc.commandDropped = s.lnc.commandDropped := by
  simp [startFailed]

/-- A status RUNNING (R129). -/
@[simp] theorem statusRunning_frame (e : Engine) (c : Int) (s : State) :
    (statusRunning e c s).pending = s.pending ∧ (statusRunning e c s).now = s.now ∧
    (statusRunning e c s).draws = s.draws ∧ (statusRunning e c s).power = s.power ∧
    (statusRunning e c s).clock = s.clock ∧ (statusRunning e c s).store = s.store ∧
    (statusRunning e c s).mdc = s.mdc ∧ (statusRunning e c s).siu = s.siu ∧ (statusRunning e c s).gmu = s.gmu ∧
    (statusRunning e c s).plu = s.plu ∧ (statusRunning e c s).evu = s.evu ∧
    (statusRunning e c s).eeu.engineCount = s.eeu.engineCount ∧
    (statusRunning e c s).eeu.accumulator = s.eeu.accumulator ∧ (statusRunning e c s).eeu.average = s.eeu.average ∧
    (statusRunning e c s).eeu.joinHold = s.eeu.joinHold ∧ (statusRunning e c s).eeu.leaveHold = s.eeu.leaveHold ∧
    (statusRunning e c s).eeu.idleHold = s.eeu.idleHold ∧ (statusRunning e c s).eeu.pumpDemand = s.eeu.pumpDemand ∧
    (statusRunning e c s).eeu.oilTemp = s.eeu.oilTemp ∧ (statusRunning e c s).eeu.warmup = s.eeu.warmup ∧
    (statusRunning e c s).eeu.effective = s.eeu.effective ∧ (statusRunning e c s).eeu.limit = s.eeu.limit ∧
    (statusRunning e c s).eeu.fuelRem = s.eeu.fuelRem ∧ (statusRunning e c s).eeu.fuelTimer = s.eeu.fuelTimer ∧
    (statusRunning e c s).eeu.feedTimer = s.eeu.feedTimer ∧ (statusRunning e c s).eeu.settings = s.eeu.settings ∧
    (statusRunning e c s).svu = s.svu ∧ (statusRunning e c s).rts = s.rts ∧
    (statusRunning e c s).lnc.ctlA = s.lnc.ctlA ∧ (statusRunning e c s).lnc.ctlB = s.lnc.ctlB ∧
    (statusRunning e c s).lnc.ctlS = s.lnc.ctlS ∧ (statusRunning e c s).lnc.rateA = s.lnc.rateA ∧
    (statusRunning e c s).lnc.rateB = s.lnc.rateB ∧ (statusRunning e c s).lnc.rateS = s.lnc.rateS ∧
    (statusRunning e c s).lnc.txGrant = s.lnc.txGrant ∧ (statusRunning e c s).lnc.txReq1 = s.lnc.txReq1 ∧
    (statusRunning e c s).lnc.txReq2 = s.lnc.txReq2 ∧ (statusRunning e c s).lnc.txPose = s.lnc.txPose ∧
    (statusRunning e c s).lnc.replies = s.lnc.replies ∧ (statusRunning e c s).lnc.half = s.lnc.half ∧
    (statusRunning e c s).lnc.lastNotice = s.lnc.lastNotice ∧ (statusRunning e c s).lnc.pvcTimer = s.lnc.pvcTimer ∧
    (statusRunning e c s).lnc.pvcSilent = s.lnc.pvcSilent ∧ (statusRunning e c s).lnc.poseReport = s.lnc.poseReport ∧
    (statusRunning e c s).lnc.latch = s.lnc.latch ∧ (statusRunning e c s).lnc.commandCrc = s.lnc.commandCrc ∧
    (statusRunning e c s).lnc.commandDropped = s.lnc.commandDropped := by
  simp only [statusRunning]
  (repeat' split) <;> simp

/-- A status STOPPED or CRANKING (R129). -/
@[simp] theorem statusNotRunning_frame (e : Engine) (b : Bool) (s : State) :
    (statusNotRunning e b s).pending = s.pending ∧ (statusNotRunning e b s).now = s.now ∧
    (statusNotRunning e b s).draws = s.draws ∧ (statusNotRunning e b s).power = s.power ∧
    (statusNotRunning e b s).clock = s.clock ∧ (statusNotRunning e b s).store = s.store ∧
    (statusNotRunning e b s).mdc = s.mdc ∧ (statusNotRunning e b s).siu = s.siu ∧
    (statusNotRunning e b s).gmu = s.gmu ∧ (statusNotRunning e b s).plu = s.plu ∧
    (statusNotRunning e b s).evu = s.evu ∧ (statusNotRunning e b s).eeu.engineCount = s.eeu.engineCount ∧
    (statusNotRunning e b s).eeu.accumulator = s.eeu.accumulator ∧
    (statusNotRunning e b s).eeu.average = s.eeu.average ∧ (statusNotRunning e b s).eeu.joinHold = s.eeu.joinHold ∧
    (statusNotRunning e b s).eeu.leaveHold = s.eeu.leaveHold ∧ (statusNotRunning e b s).eeu.ladder = s.eeu.ladder ∧
    (statusNotRunning e b s).eeu.autoIdle = s.eeu.autoIdle ∧
    (statusNotRunning e b s).eeu.lockoutTimer = s.eeu.lockoutTimer ∧
    (statusNotRunning e b s).eeu.shutdownDelay = s.eeu.shutdownDelay ∧
    (statusNotRunning e b s).eeu.countdown = s.eeu.countdown ∧
    (statusNotRunning e b s).eeu.idleHold = s.eeu.idleHold ∧
    (statusNotRunning e b s).eeu.pumpDemand = s.eeu.pumpDemand ∧
    (statusNotRunning e b s).eeu.oilTemp = s.eeu.oilTemp ∧ (statusNotRunning e b s).eeu.warmup = s.eeu.warmup ∧
    (statusNotRunning e b s).eeu.effective = s.eeu.effective ∧ (statusNotRunning e b s).eeu.limit = s.eeu.limit ∧
    (statusNotRunning e b s).eeu.fuelRem = s.eeu.fuelRem ∧ (statusNotRunning e b s).eeu.fuelTimer = s.eeu.fuelTimer ∧
    (statusNotRunning e b s).eeu.feedTimer = s.eeu.feedTimer ∧
    (statusNotRunning e b s).eeu.settings = s.eeu.settings ∧ (statusNotRunning e b s).svu = s.svu ∧
    (statusNotRunning e b s).rts = s.rts ∧ (statusNotRunning e b s).lnc.ctlA = s.lnc.ctlA ∧
    (statusNotRunning e b s).lnc.ctlB = s.lnc.ctlB ∧ (statusNotRunning e b s).lnc.ctlS = s.lnc.ctlS ∧
    (statusNotRunning e b s).lnc.rateA = s.lnc.rateA ∧ (statusNotRunning e b s).lnc.rateB = s.lnc.rateB ∧
    (statusNotRunning e b s).lnc.rateS = s.lnc.rateS ∧ (statusNotRunning e b s).lnc.txGrant = s.lnc.txGrant ∧
    (statusNotRunning e b s).lnc.txReq1 = s.lnc.txReq1 ∧ (statusNotRunning e b s).lnc.txReq2 = s.lnc.txReq2 ∧
    (statusNotRunning e b s).lnc.txPose = s.lnc.txPose ∧ (statusNotRunning e b s).lnc.replies = s.lnc.replies ∧
    (statusNotRunning e b s).lnc.half = s.lnc.half ∧ (statusNotRunning e b s).lnc.lastNotice = s.lnc.lastNotice ∧
    (statusNotRunning e b s).lnc.pvcTimer = s.lnc.pvcTimer ∧
    (statusNotRunning e b s).lnc.pvcSilent = s.lnc.pvcSilent ∧
    (statusNotRunning e b s).lnc.poseReport = s.lnc.poseReport ∧ (statusNotRunning e b s).lnc.latch = s.lnc.latch ∧
    (statusNotRunning e b s).lnc.commandCrc = s.lnc.commandCrc ∧
    (statusNotRunning e b s).lnc.commandDropped = s.lnc.commandDropped := by
  simp only [statusNotRunning]
  (repeat' split) <;> simp

/-- A status FAULT (R129). -/
@[simp] theorem statusFault_frame (e : Engine) (s : State) :
    (statusFault e s).pending = s.pending ∧ (statusFault e s).now = s.now ∧ (statusFault e s).draws = s.draws ∧
    (statusFault e s).power = s.power ∧ (statusFault e s).clock = s.clock ∧ (statusFault e s).store = s.store ∧
    (statusFault e s).mdc = s.mdc ∧ (statusFault e s).siu = s.siu ∧ (statusFault e s).gmu = s.gmu ∧
    (statusFault e s).plu = s.plu ∧ (statusFault e s).evu = s.evu ∧
    (statusFault e s).eeu.engineCount = s.eeu.engineCount ∧ (statusFault e s).eeu.accumulator = s.eeu.accumulator ∧
    (statusFault e s).eeu.average = s.eeu.average ∧ (statusFault e s).eeu.joinHold = s.eeu.joinHold ∧
    (statusFault e s).eeu.leaveHold = s.eeu.leaveHold ∧ (statusFault e s).eeu.ladder = s.eeu.ladder ∧
    (statusFault e s).eeu.autoIdle = s.eeu.autoIdle ∧ (statusFault e s).eeu.lockoutTimer = s.eeu.lockoutTimer ∧
    (statusFault e s).eeu.shutdownDelay = s.eeu.shutdownDelay ∧ (statusFault e s).eeu.countdown = s.eeu.countdown ∧
    (statusFault e s).eeu.idleHold = s.eeu.idleHold ∧ (statusFault e s).eeu.pumpDemand = s.eeu.pumpDemand ∧
    (statusFault e s).eeu.oilTemp = s.eeu.oilTemp ∧ (statusFault e s).eeu.warmup = s.eeu.warmup ∧
    (statusFault e s).eeu.effective = s.eeu.effective ∧ (statusFault e s).eeu.limit = s.eeu.limit ∧
    (statusFault e s).eeu.fuelRem = s.eeu.fuelRem ∧ (statusFault e s).eeu.fuelTimer = s.eeu.fuelTimer ∧
    (statusFault e s).eeu.feedTimer = s.eeu.feedTimer ∧ (statusFault e s).eeu.settings = s.eeu.settings ∧
    (statusFault e s).svu = s.svu ∧ (statusFault e s).rts = s.rts ∧ (statusFault e s).lnc.ctlA = s.lnc.ctlA ∧
    (statusFault e s).lnc.ctlB = s.lnc.ctlB ∧ (statusFault e s).lnc.ctlS = s.lnc.ctlS ∧
    (statusFault e s).lnc.rateA = s.lnc.rateA ∧ (statusFault e s).lnc.rateB = s.lnc.rateB ∧
    (statusFault e s).lnc.rateS = s.lnc.rateS ∧ (statusFault e s).lnc.txGrant = s.lnc.txGrant ∧
    (statusFault e s).lnc.txReq1 = s.lnc.txReq1 ∧ (statusFault e s).lnc.txReq2 = s.lnc.txReq2 ∧
    (statusFault e s).lnc.txPose = s.lnc.txPose ∧ (statusFault e s).lnc.replies = s.lnc.replies ∧
    (statusFault e s).lnc.half = s.lnc.half ∧ (statusFault e s).lnc.lastNotice = s.lnc.lastNotice ∧
    (statusFault e s).lnc.pvcTimer = s.lnc.pvcTimer ∧ (statusFault e s).lnc.pvcSilent = s.lnc.pvcSilent ∧
    (statusFault e s).lnc.poseReport = s.lnc.poseReport ∧ (statusFault e s).lnc.latch = s.lnc.latch ∧
    (statusFault e s).lnc.commandCrc = s.lnc.commandCrc ∧
    (statusFault e s).lnc.commandDropped = s.lnc.commandDropped := by
  simp only [statusFault]
  (repeat' split) <;> simp

/-- A status taken (R129). -/
@[simp] theorem takeStatus_frame (e : Engine) (st : EngineStatus) (s : State) :
    (takeStatus e st s).pending = s.pending ∧ (takeStatus e st s).now = s.now ∧ (takeStatus e st s).draws = s.draws ∧
    (takeStatus e st s).power = s.power ∧ (takeStatus e st s).clock = s.clock ∧ (takeStatus e st s).store = s.store ∧
    (takeStatus e st s).mdc = s.mdc ∧ (takeStatus e st s).siu = s.siu ∧ (takeStatus e st s).gmu = s.gmu ∧
    (takeStatus e st s).plu = s.plu ∧ (takeStatus e st s).evu = s.evu ∧
    (takeStatus e st s).eeu.engineCount = s.eeu.engineCount ∧
    (takeStatus e st s).eeu.accumulator = s.eeu.accumulator ∧ (takeStatus e st s).eeu.average = s.eeu.average ∧
    (takeStatus e st s).eeu.joinHold = s.eeu.joinHold ∧ (takeStatus e st s).eeu.leaveHold = s.eeu.leaveHold ∧
    (takeStatus e st s).eeu.idleHold = s.eeu.idleHold ∧ (takeStatus e st s).eeu.pumpDemand = s.eeu.pumpDemand ∧
    (takeStatus e st s).eeu.oilTemp = s.eeu.oilTemp ∧ (takeStatus e st s).eeu.warmup = s.eeu.warmup ∧
    (takeStatus e st s).eeu.effective = s.eeu.effective ∧ (takeStatus e st s).eeu.limit = s.eeu.limit ∧
    (takeStatus e st s).eeu.fuelRem = s.eeu.fuelRem ∧ (takeStatus e st s).eeu.fuelTimer = s.eeu.fuelTimer ∧
    (takeStatus e st s).eeu.feedTimer = s.eeu.feedTimer ∧ (takeStatus e st s).eeu.settings = s.eeu.settings ∧
    (takeStatus e st s).svu = s.svu ∧ (takeStatus e st s).rts = s.rts ∧ (takeStatus e st s).lnc.ctlA = s.lnc.ctlA ∧
    (takeStatus e st s).lnc.ctlB = s.lnc.ctlB ∧ (takeStatus e st s).lnc.ctlS = s.lnc.ctlS ∧
    (takeStatus e st s).lnc.rateA = s.lnc.rateA ∧ (takeStatus e st s).lnc.rateB = s.lnc.rateB ∧
    (takeStatus e st s).lnc.rateS = s.lnc.rateS ∧ (takeStatus e st s).lnc.txGrant = s.lnc.txGrant ∧
    (takeStatus e st s).lnc.txReq1 = s.lnc.txReq1 ∧ (takeStatus e st s).lnc.txReq2 = s.lnc.txReq2 ∧
    (takeStatus e st s).lnc.txPose = s.lnc.txPose ∧ (takeStatus e st s).lnc.replies = s.lnc.replies ∧
    (takeStatus e st s).lnc.half = s.lnc.half ∧ (takeStatus e st s).lnc.lastNotice = s.lnc.lastNotice ∧
    (takeStatus e st s).lnc.pvcTimer = s.lnc.pvcTimer ∧ (takeStatus e st s).lnc.pvcSilent = s.lnc.pvcSilent ∧
    (takeStatus e st s).lnc.poseReport = s.lnc.poseReport ∧ (takeStatus e st s).lnc.latch = s.lnc.latch ∧
    (takeStatus e st s).lnc.commandCrc = s.lnc.commandCrc ∧
    (takeStatus e st s).lnc.commandDropped = s.lnc.commandDropped := by
  simp only [takeStatus]
  (repeat' split) <;> simp

/-- A group report (R134). -/
@[simp] theorem groupReport_frame (e : Engine) (b : Bool) (s : State) :
    (groupReport e b s).pending = s.pending ∧ (groupReport e b s).now = s.now ∧ (groupReport e b s).draws = s.draws ∧
    (groupReport e b s).power = s.power ∧ (groupReport e b s).clock = s.clock ∧ (groupReport e b s).store = s.store ∧
    (groupReport e b s).mdc = s.mdc ∧ (groupReport e b s).siu = s.siu ∧ (groupReport e b s).gmu = s.gmu ∧
    (groupReport e b s).plu = s.plu ∧ (groupReport e b s).evu = s.evu ∧
    (groupReport e b s).eeu.engineCount = s.eeu.engineCount ∧
    (groupReport e b s).eeu.accumulator = s.eeu.accumulator ∧ (groupReport e b s).eeu.average = s.eeu.average ∧
    (groupReport e b s).eeu.joinHold = s.eeu.joinHold ∧ (groupReport e b s).eeu.leaveHold = s.eeu.leaveHold ∧
    (groupReport e b s).eeu.ladder = s.eeu.ladder ∧ (groupReport e b s).eeu.autoIdle = s.eeu.autoIdle ∧
    (groupReport e b s).eeu.lockoutTimer = s.eeu.lockoutTimer ∧
    (groupReport e b s).eeu.shutdownDelay = s.eeu.shutdownDelay ∧
    (groupReport e b s).eeu.countdown = s.eeu.countdown ∧ (groupReport e b s).eeu.idleHold = s.eeu.idleHold ∧
    (groupReport e b s).eeu.pumpDemand = s.eeu.pumpDemand ∧ (groupReport e b s).eeu.oilTemp = s.eeu.oilTemp ∧
    (groupReport e b s).eeu.warmup = s.eeu.warmup ∧ (groupReport e b s).eeu.effective = s.eeu.effective ∧
    (groupReport e b s).eeu.limit = s.eeu.limit ∧ (groupReport e b s).eeu.fuelRem = s.eeu.fuelRem ∧
    (groupReport e b s).eeu.fuelTimer = s.eeu.fuelTimer ∧ (groupReport e b s).eeu.feedTimer = s.eeu.feedTimer ∧
    (groupReport e b s).eeu.settings = s.eeu.settings ∧ (groupReport e b s).svu = s.svu ∧
    (groupReport e b s).rts = s.rts ∧ (groupReport e b s).lnc.ctlA = s.lnc.ctlA ∧
    (groupReport e b s).lnc.ctlB = s.lnc.ctlB ∧ (groupReport e b s).lnc.ctlS = s.lnc.ctlS ∧
    (groupReport e b s).lnc.rateA = s.lnc.rateA ∧ (groupReport e b s).lnc.rateB = s.lnc.rateB ∧
    (groupReport e b s).lnc.rateS = s.lnc.rateS ∧ (groupReport e b s).lnc.txGrant = s.lnc.txGrant ∧
    (groupReport e b s).lnc.txReq1 = s.lnc.txReq1 ∧ (groupReport e b s).lnc.txReq2 = s.lnc.txReq2 ∧
    (groupReport e b s).lnc.txPose = s.lnc.txPose ∧ (groupReport e b s).lnc.replies = s.lnc.replies ∧
    (groupReport e b s).lnc.half = s.lnc.half ∧ (groupReport e b s).lnc.lastNotice = s.lnc.lastNotice ∧
    (groupReport e b s).lnc.pvcTimer = s.lnc.pvcTimer ∧ (groupReport e b s).lnc.pvcSilent = s.lnc.pvcSilent ∧
    (groupReport e b s).lnc.poseReport = s.lnc.poseReport ∧ (groupReport e b s).lnc.latch = s.lnc.latch ∧
    (groupReport e b s).lnc.commandCrc = s.lnc.commandCrc ∧
    (groupReport e b s).lnc.commandDropped = s.lnc.commandDropped := by
  simp only [groupReport]
  (repeat' split) <;> simp

/-- The power average (R140). -/
@[simp] theorem takeDemand_frame (d : Nat) (s : State) :
    (takeDemand d s).pending = s.pending ∧ (takeDemand d s).now = s.now ∧ (takeDemand d s).draws = s.draws ∧
    (takeDemand d s).power = s.power ∧ (takeDemand d s).clock = s.clock ∧ (takeDemand d s).store = s.store ∧
    (takeDemand d s).mdc = s.mdc ∧ (takeDemand d s).siu = s.siu ∧ (takeDemand d s).gmu = s.gmu ∧
    (takeDemand d s).plu = s.plu ∧ (takeDemand d s).evu = s.evu ∧ (takeDemand d s).eeu.slot1 = s.eeu.slot1 ∧
    (takeDemand d s).eeu.slot2 = s.eeu.slot2 ∧ (takeDemand d s).eeu.engineCount = s.eeu.engineCount ∧
    (takeDemand d s).eeu.joinHold = s.eeu.joinHold ∧ (takeDemand d s).eeu.leaveHold = s.eeu.leaveHold ∧
    (takeDemand d s).eeu.ladder = s.eeu.ladder ∧ (takeDemand d s).eeu.autoIdle = s.eeu.autoIdle ∧
    (takeDemand d s).eeu.lockoutTimer = s.eeu.lockoutTimer ∧
    (takeDemand d s).eeu.shutdownDelay = s.eeu.shutdownDelay ∧ (takeDemand d s).eeu.countdown = s.eeu.countdown ∧
    (takeDemand d s).eeu.idleHold = s.eeu.idleHold ∧ (takeDemand d s).eeu.oilTemp = s.eeu.oilTemp ∧
    (takeDemand d s).eeu.warmup = s.eeu.warmup ∧ (takeDemand d s).eeu.effective = s.eeu.effective ∧
    (takeDemand d s).eeu.limit = s.eeu.limit ∧ (takeDemand d s).eeu.fuelRem = s.eeu.fuelRem ∧
    (takeDemand d s).eeu.fuelTimer = s.eeu.fuelTimer ∧ (takeDemand d s).eeu.feedTimer = s.eeu.feedTimer ∧
    (takeDemand d s).eeu.settings = s.eeu.settings ∧ (takeDemand d s).svu = s.svu ∧ (takeDemand d s).rts = s.rts ∧
    (takeDemand d s).lnc = s.lnc := by
  simp [takeDemand]

/-- The oil temperature (R157). -/
@[simp] theorem takeOil_frame (o : Int) (s : State) :
    (takeOil o s).pending = s.pending ∧ (takeOil o s).now = s.now ∧ (takeOil o s).draws = s.draws ∧
    (takeOil o s).power = s.power ∧ (takeOil o s).clock = s.clock ∧ (takeOil o s).store = s.store ∧
    (takeOil o s).mdc = s.mdc ∧ (takeOil o s).siu = s.siu ∧ (takeOil o s).gmu = s.gmu ∧ (takeOil o s).plu = s.plu ∧
    (takeOil o s).evu = s.evu ∧ (takeOil o s).eeu.slot1 = s.eeu.slot1 ∧ (takeOil o s).eeu.slot2 = s.eeu.slot2 ∧
    (takeOil o s).eeu.engineCount = s.eeu.engineCount ∧ (takeOil o s).eeu.accumulator = s.eeu.accumulator ∧
    (takeOil o s).eeu.average = s.eeu.average ∧ (takeOil o s).eeu.joinHold = s.eeu.joinHold ∧
    (takeOil o s).eeu.leaveHold = s.eeu.leaveHold ∧ (takeOil o s).eeu.ladder = s.eeu.ladder ∧
    (takeOil o s).eeu.autoIdle = s.eeu.autoIdle ∧ (takeOil o s).eeu.lockoutTimer = s.eeu.lockoutTimer ∧
    (takeOil o s).eeu.shutdownDelay = s.eeu.shutdownDelay ∧ (takeOil o s).eeu.countdown = s.eeu.countdown ∧
    (takeOil o s).eeu.idleHold = s.eeu.idleHold ∧ (takeOil o s).eeu.pumpDemand = s.eeu.pumpDemand ∧
    (takeOil o s).eeu.effective = s.eeu.effective ∧ (takeOil o s).eeu.limit = s.eeu.limit ∧
    (takeOil o s).eeu.fuelRem = s.eeu.fuelRem ∧ (takeOil o s).eeu.fuelTimer = s.eeu.fuelTimer ∧
    (takeOil o s).eeu.feedTimer = s.eeu.feedTimer ∧ (takeOil o s).eeu.settings = s.eeu.settings ∧
    (takeOil o s).svu = s.svu ∧ (takeOil o s).rts = s.rts ∧ (takeOil o s).lnc = s.lnc := by
  simp [takeOil]

/-- Slot E2 made UNUSED (R127). -/
@[simp] theorem unuseE2_frame (s : State) :
    (unuseE2 s).pending = s.pending ∧ (unuseE2 s).now = s.now ∧ (unuseE2 s).draws = s.draws ∧
    (unuseE2 s).power = s.power ∧ (unuseE2 s).clock = s.clock ∧ (unuseE2 s).store = s.store ∧
    (unuseE2 s).mdc = s.mdc ∧ (unuseE2 s).siu = s.siu ∧ (unuseE2 s).gmu = s.gmu ∧ (unuseE2 s).plu = s.plu ∧
    (unuseE2 s).evu = s.evu ∧ (unuseE2 s).eeu.engineCount = s.eeu.engineCount ∧
    (unuseE2 s).eeu.accumulator = s.eeu.accumulator ∧ (unuseE2 s).eeu.average = s.eeu.average ∧
    (unuseE2 s).eeu.joinHold = s.eeu.joinHold ∧ (unuseE2 s).eeu.leaveHold = s.eeu.leaveHold ∧
    (unuseE2 s).eeu.ladder = s.eeu.ladder ∧ (unuseE2 s).eeu.autoIdle = s.eeu.autoIdle ∧
    (unuseE2 s).eeu.lockoutTimer = s.eeu.lockoutTimer ∧ (unuseE2 s).eeu.shutdownDelay = s.eeu.shutdownDelay ∧
    (unuseE2 s).eeu.countdown = s.eeu.countdown ∧ (unuseE2 s).eeu.idleHold = s.eeu.idleHold ∧
    (unuseE2 s).eeu.pumpDemand = s.eeu.pumpDemand ∧ (unuseE2 s).eeu.oilTemp = s.eeu.oilTemp ∧
    (unuseE2 s).eeu.warmup = s.eeu.warmup ∧ (unuseE2 s).eeu.effective = s.eeu.effective ∧
    (unuseE2 s).eeu.limit = s.eeu.limit ∧ (unuseE2 s).eeu.fuelRem = s.eeu.fuelRem ∧
    (unuseE2 s).eeu.fuelTimer = s.eeu.fuelTimer ∧ (unuseE2 s).eeu.feedTimer = s.eeu.feedTimer ∧
    (unuseE2 s).eeu.settings = s.eeu.settings ∧ (unuseE2 s).svu = s.svu ∧ (unuseE2 s).rts = s.rts ∧
    (unuseE2 s).lnc.ctlA = s.lnc.ctlA ∧ (unuseE2 s).lnc.ctlB = s.lnc.ctlB ∧ (unuseE2 s).lnc.ctlS = s.lnc.ctlS ∧
    (unuseE2 s).lnc.rateA = s.lnc.rateA ∧ (unuseE2 s).lnc.rateB = s.lnc.rateB ∧ (unuseE2 s).lnc.rateS = s.lnc.rateS ∧
    (unuseE2 s).lnc.txGrant = s.lnc.txGrant ∧ (unuseE2 s).lnc.txReq1 = s.lnc.txReq1 ∧
    (unuseE2 s).lnc.txReq2 = s.lnc.txReq2 ∧ (unuseE2 s).lnc.txPose = s.lnc.txPose ∧
    (unuseE2 s).lnc.replies = s.lnc.replies ∧ (unuseE2 s).lnc.half = s.lnc.half ∧
    (unuseE2 s).lnc.lastNotice = s.lnc.lastNotice ∧ (unuseE2 s).lnc.pvcTimer = s.lnc.pvcTimer ∧
    (unuseE2 s).lnc.pvcSilent = s.lnc.pvcSilent ∧ (unuseE2 s).lnc.poseReport = s.lnc.poseReport ∧
    (unuseE2 s).lnc.latch = s.lnc.latch ∧ (unuseE2 s).lnc.commandCrc = s.lnc.commandCrc ∧
    (unuseE2 s).lnc.commandDropped = s.lnc.commandDropped := by
  simp only [unuseE2]
  (repeat' split) <;> simp

/-- Slot E2 brought back (R127). -/
@[simp] theorem reuseE2_frame (s : State) :
    (reuseE2 s).pending = s.pending ∧ (reuseE2 s).now = s.now ∧ (reuseE2 s).draws = s.draws ∧
    (reuseE2 s).power = s.power ∧ (reuseE2 s).clock = s.clock ∧ (reuseE2 s).store = s.store ∧
    (reuseE2 s).mdc = s.mdc ∧ (reuseE2 s).siu = s.siu ∧ (reuseE2 s).gmu = s.gmu ∧ (reuseE2 s).plu = s.plu ∧
    (reuseE2 s).evu = s.evu ∧ (reuseE2 s).eeu.engineCount = s.eeu.engineCount ∧
    (reuseE2 s).eeu.accumulator = s.eeu.accumulator ∧ (reuseE2 s).eeu.average = s.eeu.average ∧
    (reuseE2 s).eeu.joinHold = s.eeu.joinHold ∧ (reuseE2 s).eeu.leaveHold = s.eeu.leaveHold ∧
    (reuseE2 s).eeu.ladder = s.eeu.ladder ∧ (reuseE2 s).eeu.autoIdle = s.eeu.autoIdle ∧
    (reuseE2 s).eeu.lockoutTimer = s.eeu.lockoutTimer ∧ (reuseE2 s).eeu.shutdownDelay = s.eeu.shutdownDelay ∧
    (reuseE2 s).eeu.countdown = s.eeu.countdown ∧ (reuseE2 s).eeu.idleHold = s.eeu.idleHold ∧
    (reuseE2 s).eeu.pumpDemand = s.eeu.pumpDemand ∧ (reuseE2 s).eeu.oilTemp = s.eeu.oilTemp ∧
    (reuseE2 s).eeu.warmup = s.eeu.warmup ∧ (reuseE2 s).eeu.effective = s.eeu.effective ∧
    (reuseE2 s).eeu.limit = s.eeu.limit ∧ (reuseE2 s).eeu.fuelRem = s.eeu.fuelRem ∧
    (reuseE2 s).eeu.fuelTimer = s.eeu.fuelTimer ∧ (reuseE2 s).eeu.feedTimer = s.eeu.feedTimer ∧
    (reuseE2 s).eeu.settings = s.eeu.settings ∧ (reuseE2 s).svu = s.svu ∧ (reuseE2 s).rts = s.rts ∧
    (reuseE2 s).lnc.ctlA = s.lnc.ctlA ∧ (reuseE2 s).lnc.ctlB = s.lnc.ctlB ∧ (reuseE2 s).lnc.ctlS = s.lnc.ctlS ∧
    (reuseE2 s).lnc.rateA = s.lnc.rateA ∧ (reuseE2 s).lnc.rateB = s.lnc.rateB ∧ (reuseE2 s).lnc.rateS = s.lnc.rateS ∧
    (reuseE2 s).lnc.txGrant = s.lnc.txGrant ∧ (reuseE2 s).lnc.txReq1 = s.lnc.txReq1 ∧
    (reuseE2 s).lnc.txReq2 = s.lnc.txReq2 ∧ (reuseE2 s).lnc.txPose = s.lnc.txPose ∧
    (reuseE2 s).lnc.replies = s.lnc.replies ∧ (reuseE2 s).lnc.half = s.lnc.half ∧
    (reuseE2 s).lnc.lastNotice = s.lnc.lastNotice ∧ (reuseE2 s).lnc.pvcTimer = s.lnc.pvcTimer ∧
    (reuseE2 s).lnc.pvcSilent = s.lnc.pvcSilent ∧ (reuseE2 s).lnc.poseReport = s.lnc.poseReport ∧
    (reuseE2 s).lnc.latch = s.lnc.latch ∧ (reuseE2 s).lnc.commandCrc = s.lnc.commandCrc ∧
    (reuseE2 s).lnc.commandDropped = s.lnc.commandDropped := by
  simp only [reuseE2]
  (repeat' split) <;> simp

/-- The lead set (R128). -/
@[simp] theorem setLead_frame (e : Engine) (s : State) :
    (setLead e s).pending = s.pending ∧ (setLead e s).now = s.now ∧ (setLead e s).draws = s.draws ∧
    (setLead e s).power = s.power ∧ (setLead e s).clock = s.clock ∧ (setLead e s).store = s.store ∧
    (setLead e s).mdc = s.mdc ∧ (setLead e s).siu = s.siu ∧ (setLead e s).gmu = s.gmu ∧ (setLead e s).plu = s.plu ∧
    (setLead e s).evu = s.evu ∧ (setLead e s).eeu.engineCount = s.eeu.engineCount ∧
    (setLead e s).eeu.accumulator = s.eeu.accumulator ∧ (setLead e s).eeu.average = s.eeu.average ∧
    (setLead e s).eeu.joinHold = s.eeu.joinHold ∧ (setLead e s).eeu.leaveHold = s.eeu.leaveHold ∧
    (setLead e s).eeu.ladder = s.eeu.ladder ∧ (setLead e s).eeu.autoIdle = s.eeu.autoIdle ∧
    (setLead e s).eeu.lockoutTimer = s.eeu.lockoutTimer ∧ (setLead e s).eeu.shutdownDelay = s.eeu.shutdownDelay ∧
    (setLead e s).eeu.countdown = s.eeu.countdown ∧ (setLead e s).eeu.idleHold = s.eeu.idleHold ∧
    (setLead e s).eeu.pumpDemand = s.eeu.pumpDemand ∧ (setLead e s).eeu.oilTemp = s.eeu.oilTemp ∧
    (setLead e s).eeu.warmup = s.eeu.warmup ∧ (setLead e s).eeu.effective = s.eeu.effective ∧
    (setLead e s).eeu.limit = s.eeu.limit ∧ (setLead e s).eeu.fuelRem = s.eeu.fuelRem ∧
    (setLead e s).eeu.fuelTimer = s.eeu.fuelTimer ∧ (setLead e s).eeu.feedTimer = s.eeu.feedTimer ∧
    (setLead e s).eeu.settings = s.eeu.settings ∧ (setLead e s).svu = s.svu ∧ (setLead e s).rts = s.rts ∧
    (setLead e s).lnc = s.lnc := by
  simp [setLead]

/-- The engine count applied (R127). -/
@[simp] theorem applyEngineCount_frame (s : State) :
    (applyEngineCount s).pending = s.pending ∧ (applyEngineCount s).now = s.now ∧
    (applyEngineCount s).draws = s.draws ∧ (applyEngineCount s).power = s.power ∧
    (applyEngineCount s).clock = s.clock ∧ (applyEngineCount s).store = s.store ∧ (applyEngineCount s).mdc = s.mdc ∧
    (applyEngineCount s).siu = s.siu ∧ (applyEngineCount s).gmu = s.gmu ∧ (applyEngineCount s).plu = s.plu ∧
    (applyEngineCount s).evu = s.evu ∧ (applyEngineCount s).eeu.accumulator = s.eeu.accumulator ∧
    (applyEngineCount s).eeu.average = s.eeu.average ∧ (applyEngineCount s).eeu.joinHold = s.eeu.joinHold ∧
    (applyEngineCount s).eeu.leaveHold = s.eeu.leaveHold ∧ (applyEngineCount s).eeu.ladder = s.eeu.ladder ∧
    (applyEngineCount s).eeu.autoIdle = s.eeu.autoIdle ∧ (applyEngineCount s).eeu.lockoutTimer = s.eeu.lockoutTimer ∧
    (applyEngineCount s).eeu.shutdownDelay = s.eeu.shutdownDelay ∧
    (applyEngineCount s).eeu.countdown = s.eeu.countdown ∧ (applyEngineCount s).eeu.idleHold = s.eeu.idleHold ∧
    (applyEngineCount s).eeu.pumpDemand = s.eeu.pumpDemand ∧ (applyEngineCount s).eeu.oilTemp = s.eeu.oilTemp ∧
    (applyEngineCount s).eeu.warmup = s.eeu.warmup ∧ (applyEngineCount s).eeu.effective = s.eeu.effective ∧
    (applyEngineCount s).eeu.limit = s.eeu.limit ∧ (applyEngineCount s).eeu.fuelRem = s.eeu.fuelRem ∧
    (applyEngineCount s).eeu.fuelTimer = s.eeu.fuelTimer ∧ (applyEngineCount s).eeu.feedTimer = s.eeu.feedTimer ∧
    (applyEngineCount s).eeu.settings = s.eeu.settings ∧ (applyEngineCount s).svu = s.svu ∧
    (applyEngineCount s).rts = s.rts ∧ (applyEngineCount s).lnc.ctlA = s.lnc.ctlA ∧
    (applyEngineCount s).lnc.ctlB = s.lnc.ctlB ∧ (applyEngineCount s).lnc.ctlS = s.lnc.ctlS ∧
    (applyEngineCount s).lnc.rateA = s.lnc.rateA ∧ (applyEngineCount s).lnc.rateB = s.lnc.rateB ∧
    (applyEngineCount s).lnc.rateS = s.lnc.rateS ∧ (applyEngineCount s).lnc.txGrant = s.lnc.txGrant ∧
    (applyEngineCount s).lnc.txReq1 = s.lnc.txReq1 ∧ (applyEngineCount s).lnc.txReq2 = s.lnc.txReq2 ∧
    (applyEngineCount s).lnc.txPose = s.lnc.txPose ∧ (applyEngineCount s).lnc.replies = s.lnc.replies ∧
    (applyEngineCount s).lnc.half = s.lnc.half ∧ (applyEngineCount s).lnc.lastNotice = s.lnc.lastNotice ∧
    (applyEngineCount s).lnc.pvcTimer = s.lnc.pvcTimer ∧ (applyEngineCount s).lnc.pvcSilent = s.lnc.pvcSilent ∧
    (applyEngineCount s).lnc.poseReport = s.lnc.poseReport ∧ (applyEngineCount s).lnc.latch = s.lnc.latch ∧
    (applyEngineCount s).lnc.commandCrc = s.lnc.commandCrc ∧
    (applyEngineCount s).lnc.commandDropped = s.lnc.commandDropped := by
  simp only [applyEngineCount]
  (repeat' split) <;> simp

/-- The lead chosen (R128). -/
@[simp] theorem chooseLead_frame (s : State) :
    (chooseLead s).pending = s.pending ∧ (chooseLead s).now = s.now ∧ (chooseLead s).draws = s.draws ∧
    (chooseLead s).power = s.power ∧ (chooseLead s).clock = s.clock ∧ (chooseLead s).store = s.store ∧
    (chooseLead s).mdc = s.mdc ∧ (chooseLead s).siu = s.siu ∧ (chooseLead s).gmu = s.gmu ∧
    (chooseLead s).plu = s.plu ∧ (chooseLead s).evu = s.evu ∧ (chooseLead s).eeu.engineCount = s.eeu.engineCount ∧
    (chooseLead s).eeu.accumulator = s.eeu.accumulator ∧ (chooseLead s).eeu.average = s.eeu.average ∧
    (chooseLead s).eeu.joinHold = s.eeu.joinHold ∧ (chooseLead s).eeu.leaveHold = s.eeu.leaveHold ∧
    (chooseLead s).eeu.ladder = s.eeu.ladder ∧ (chooseLead s).eeu.autoIdle = s.eeu.autoIdle ∧
    (chooseLead s).eeu.lockoutTimer = s.eeu.lockoutTimer ∧ (chooseLead s).eeu.shutdownDelay = s.eeu.shutdownDelay ∧
    (chooseLead s).eeu.countdown = s.eeu.countdown ∧ (chooseLead s).eeu.idleHold = s.eeu.idleHold ∧
    (chooseLead s).eeu.pumpDemand = s.eeu.pumpDemand ∧ (chooseLead s).eeu.oilTemp = s.eeu.oilTemp ∧
    (chooseLead s).eeu.warmup = s.eeu.warmup ∧ (chooseLead s).eeu.effective = s.eeu.effective ∧
    (chooseLead s).eeu.limit = s.eeu.limit ∧ (chooseLead s).eeu.fuelRem = s.eeu.fuelRem ∧
    (chooseLead s).eeu.fuelTimer = s.eeu.fuelTimer ∧ (chooseLead s).eeu.feedTimer = s.eeu.feedTimer ∧
    (chooseLead s).eeu.settings = s.eeu.settings ∧ (chooseLead s).svu = s.svu ∧ (chooseLead s).rts = s.rts ∧
    (chooseLead s).lnc = s.lnc := by
  simp only [chooseLead]
  (repeat' split) <;> simp

/-- ENGINE_RESET on one slot (R16). -/
@[simp] theorem resetSlot_frame (e : Engine) (s : State) :
    (resetSlot e s).pending = s.pending ∧ (resetSlot e s).now = s.now ∧ (resetSlot e s).draws = s.draws ∧
    (resetSlot e s).power = s.power ∧ (resetSlot e s).clock = s.clock ∧ (resetSlot e s).store = s.store ∧
    (resetSlot e s).mdc = s.mdc ∧ (resetSlot e s).siu = s.siu ∧ (resetSlot e s).gmu = s.gmu ∧
    (resetSlot e s).plu = s.plu ∧ (resetSlot e s).evu = s.evu ∧ (resetSlot e s).eeu.engineCount = s.eeu.engineCount ∧
    (resetSlot e s).eeu.accumulator = s.eeu.accumulator ∧ (resetSlot e s).eeu.average = s.eeu.average ∧
    (resetSlot e s).eeu.joinHold = s.eeu.joinHold ∧ (resetSlot e s).eeu.leaveHold = s.eeu.leaveHold ∧
    (resetSlot e s).eeu.ladder = s.eeu.ladder ∧ (resetSlot e s).eeu.autoIdle = s.eeu.autoIdle ∧
    (resetSlot e s).eeu.lockoutTimer = s.eeu.lockoutTimer ∧ (resetSlot e s).eeu.shutdownDelay = s.eeu.shutdownDelay ∧
    (resetSlot e s).eeu.countdown = s.eeu.countdown ∧ (resetSlot e s).eeu.idleHold = s.eeu.idleHold ∧
    (resetSlot e s).eeu.pumpDemand = s.eeu.pumpDemand ∧ (resetSlot e s).eeu.oilTemp = s.eeu.oilTemp ∧
    (resetSlot e s).eeu.warmup = s.eeu.warmup ∧ (resetSlot e s).eeu.effective = s.eeu.effective ∧
    (resetSlot e s).eeu.limit = s.eeu.limit ∧ (resetSlot e s).eeu.fuelRem = s.eeu.fuelRem ∧
    (resetSlot e s).eeu.fuelTimer = s.eeu.fuelTimer ∧ (resetSlot e s).eeu.feedTimer = s.eeu.feedTimer ∧
    (resetSlot e s).eeu.settings = s.eeu.settings ∧ (resetSlot e s).svu = s.svu ∧ (resetSlot e s).rts = s.rts ∧
    (resetSlot e s).lnc.ctlA = s.lnc.ctlA ∧ (resetSlot e s).lnc.ctlB = s.lnc.ctlB ∧
    (resetSlot e s).lnc.ctlS = s.lnc.ctlS ∧ (resetSlot e s).lnc.rateA = s.lnc.rateA ∧
    (resetSlot e s).lnc.rateB = s.lnc.rateB ∧ (resetSlot e s).lnc.rateS = s.lnc.rateS ∧
    (resetSlot e s).lnc.txGrant = s.lnc.txGrant ∧ (resetSlot e s).lnc.txReq1 = s.lnc.txReq1 ∧
    (resetSlot e s).lnc.txReq2 = s.lnc.txReq2 ∧ (resetSlot e s).lnc.txPose = s.lnc.txPose ∧
    (resetSlot e s).lnc.replies = s.lnc.replies ∧ (resetSlot e s).lnc.half = s.lnc.half ∧
    (resetSlot e s).lnc.lastNotice = s.lnc.lastNotice ∧ (resetSlot e s).lnc.pvcTimer = s.lnc.pvcTimer ∧
    (resetSlot e s).lnc.pvcSilent = s.lnc.pvcSilent ∧ (resetSlot e s).lnc.poseReport = s.lnc.poseReport ∧
    (resetSlot e s).lnc.latch = s.lnc.latch ∧ (resetSlot e s).lnc.commandCrc = s.lnc.commandCrc ∧
    (resetSlot e s).lnc.commandDropped = s.lnc.commandDropped := by
  simp only [resetSlot]
  (repeat' split) <;> simp

/-- ENGINE_RESET (R16). -/
@[simp] theorem restartEngines_frame (s : State) :
    (restartEngines s).pending = s.pending ∧ (restartEngines s).now = s.now ∧ (restartEngines s).draws = s.draws ∧
    (restartEngines s).power = s.power ∧ (restartEngines s).clock = s.clock ∧ (restartEngines s).store = s.store ∧
    (restartEngines s).mdc = s.mdc ∧ (restartEngines s).siu = s.siu ∧ (restartEngines s).gmu = s.gmu ∧
    (restartEngines s).plu = s.plu ∧ (restartEngines s).evu = s.evu ∧
    (restartEngines s).eeu.engineCount = s.eeu.engineCount ∧ (restartEngines s).eeu.accumulator = s.eeu.accumulator ∧
    (restartEngines s).eeu.average = s.eeu.average ∧ (restartEngines s).eeu.joinHold = s.eeu.joinHold ∧
    (restartEngines s).eeu.leaveHold = s.eeu.leaveHold ∧ (restartEngines s).eeu.pumpDemand = s.eeu.pumpDemand ∧
    (restartEngines s).eeu.oilTemp = s.eeu.oilTemp ∧ (restartEngines s).eeu.warmup = s.eeu.warmup ∧
    (restartEngines s).eeu.effective = s.eeu.effective ∧ (restartEngines s).eeu.limit = s.eeu.limit ∧
    (restartEngines s).eeu.fuelRem = s.eeu.fuelRem ∧ (restartEngines s).eeu.fuelTimer = s.eeu.fuelTimer ∧
    (restartEngines s).eeu.feedTimer = s.eeu.feedTimer ∧ (restartEngines s).eeu.settings = s.eeu.settings ∧
    (restartEngines s).svu = s.svu ∧ (restartEngines s).rts = s.rts ∧ (restartEngines s).lnc.ctlA = s.lnc.ctlA ∧
    (restartEngines s).lnc.ctlB = s.lnc.ctlB ∧ (restartEngines s).lnc.ctlS = s.lnc.ctlS ∧
    (restartEngines s).lnc.rateA = s.lnc.rateA ∧ (restartEngines s).lnc.rateB = s.lnc.rateB ∧
    (restartEngines s).lnc.rateS = s.lnc.rateS ∧ (restartEngines s).lnc.txGrant = s.lnc.txGrant ∧
    (restartEngines s).lnc.txReq1 = s.lnc.txReq1 ∧ (restartEngines s).lnc.txReq2 = s.lnc.txReq2 ∧
    (restartEngines s).lnc.txPose = s.lnc.txPose ∧ (restartEngines s).lnc.replies = s.lnc.replies ∧
    (restartEngines s).lnc.half = s.lnc.half ∧ (restartEngines s).lnc.lastNotice = s.lnc.lastNotice ∧
    (restartEngines s).lnc.pvcTimer = s.lnc.pvcTimer ∧ (restartEngines s).lnc.pvcSilent = s.lnc.pvcSilent ∧
    (restartEngines s).lnc.poseReport = s.lnc.poseReport ∧ (restartEngines s).lnc.latch = s.lnc.latch ∧
    (restartEngines s).lnc.commandCrc = s.lnc.commandCrc ∧
    (restartEngines s).lnc.commandDropped = s.lnc.commandDropped := by
  simp [restartEngines]

/-- Entry to CLOSING (R10). -/
@[simp] theorem closeEngines_frame (s : State) :
    (closeEngines s).pending = s.pending ∧ (closeEngines s).now = s.now ∧ (closeEngines s).draws = s.draws ∧
    (closeEngines s).power = s.power ∧ (closeEngines s).clock = s.clock ∧ (closeEngines s).store = s.store ∧
    (closeEngines s).mdc = s.mdc ∧ (closeEngines s).siu = s.siu ∧ (closeEngines s).gmu = s.gmu ∧
    (closeEngines s).plu = s.plu ∧ (closeEngines s).evu = s.evu ∧
    (closeEngines s).eeu.engineCount = s.eeu.engineCount ∧ (closeEngines s).eeu.accumulator = s.eeu.accumulator ∧
    (closeEngines s).eeu.average = s.eeu.average ∧ (closeEngines s).eeu.joinHold = s.eeu.joinHold ∧
    (closeEngines s).eeu.leaveHold = s.eeu.leaveHold ∧ (closeEngines s).eeu.pumpDemand = s.eeu.pumpDemand ∧
    (closeEngines s).eeu.oilTemp = s.eeu.oilTemp ∧ (closeEngines s).eeu.warmup = s.eeu.warmup ∧
    (closeEngines s).eeu.effective = s.eeu.effective ∧ (closeEngines s).eeu.limit = s.eeu.limit ∧
    (closeEngines s).eeu.fuelRem = s.eeu.fuelRem ∧ (closeEngines s).eeu.fuelTimer = s.eeu.fuelTimer ∧
    (closeEngines s).eeu.feedTimer = s.eeu.feedTimer ∧ (closeEngines s).eeu.settings = s.eeu.settings ∧
    (closeEngines s).svu = s.svu ∧ (closeEngines s).rts = s.rts ∧ (closeEngines s).lnc.ctlA = s.lnc.ctlA ∧
    (closeEngines s).lnc.ctlB = s.lnc.ctlB ∧ (closeEngines s).lnc.ctlS = s.lnc.ctlS ∧
    (closeEngines s).lnc.rateA = s.lnc.rateA ∧ (closeEngines s).lnc.rateB = s.lnc.rateB ∧
    (closeEngines s).lnc.rateS = s.lnc.rateS ∧ (closeEngines s).lnc.txGrant = s.lnc.txGrant ∧
    (closeEngines s).lnc.txReq1 = s.lnc.txReq1 ∧ (closeEngines s).lnc.txReq2 = s.lnc.txReq2 ∧
    (closeEngines s).lnc.txPose = s.lnc.txPose ∧ (closeEngines s).lnc.replies = s.lnc.replies ∧
    (closeEngines s).lnc.half = s.lnc.half ∧ (closeEngines s).lnc.lastNotice = s.lnc.lastNotice ∧
    (closeEngines s).lnc.pvcTimer = s.lnc.pvcTimer ∧ (closeEngines s).lnc.pvcSilent = s.lnc.pvcSilent ∧
    (closeEngines s).lnc.poseReport = s.lnc.poseReport ∧ (closeEngines s).lnc.latch = s.lnc.latch ∧
    (closeEngines s).lnc.commandCrc = s.lnc.commandCrc ∧
    (closeEngines s).lnc.commandDropped = s.lnc.commandDropped := by
  simp only [closeEngines]
  (repeat' split) <;> simp

/-- Entry to SERVICE (R7). -/
@[simp] theorem serviceLadder_frame (s : State) :
    (serviceLadder s).pending = s.pending ∧ (serviceLadder s).now = s.now ∧ (serviceLadder s).draws = s.draws ∧
    (serviceLadder s).power = s.power ∧ (serviceLadder s).clock = s.clock ∧ (serviceLadder s).store = s.store ∧
    (serviceLadder s).mdc = s.mdc ∧ (serviceLadder s).siu = s.siu ∧ (serviceLadder s).gmu = s.gmu ∧
    (serviceLadder s).plu = s.plu ∧ (serviceLadder s).evu = s.evu ∧
    (serviceLadder s).eeu.engineCount = s.eeu.engineCount ∧ (serviceLadder s).eeu.accumulator = s.eeu.accumulator ∧
    (serviceLadder s).eeu.average = s.eeu.average ∧ (serviceLadder s).eeu.joinHold = s.eeu.joinHold ∧
    (serviceLadder s).eeu.leaveHold = s.eeu.leaveHold ∧ (serviceLadder s).eeu.idleHold = s.eeu.idleHold ∧
    (serviceLadder s).eeu.pumpDemand = s.eeu.pumpDemand ∧ (serviceLadder s).eeu.oilTemp = s.eeu.oilTemp ∧
    (serviceLadder s).eeu.warmup = s.eeu.warmup ∧ (serviceLadder s).eeu.effective = s.eeu.effective ∧
    (serviceLadder s).eeu.limit = s.eeu.limit ∧ (serviceLadder s).eeu.fuelRem = s.eeu.fuelRem ∧
    (serviceLadder s).eeu.fuelTimer = s.eeu.fuelTimer ∧ (serviceLadder s).eeu.feedTimer = s.eeu.feedTimer ∧
    (serviceLadder s).eeu.settings = s.eeu.settings ∧ (serviceLadder s).svu = s.svu ∧ (serviceLadder s).rts = s.rts ∧
    (serviceLadder s).lnc.ctlA = s.lnc.ctlA ∧ (serviceLadder s).lnc.ctlB = s.lnc.ctlB ∧
    (serviceLadder s).lnc.ctlS = s.lnc.ctlS ∧ (serviceLadder s).lnc.rateA = s.lnc.rateA ∧
    (serviceLadder s).lnc.rateB = s.lnc.rateB ∧ (serviceLadder s).lnc.rateS = s.lnc.rateS ∧
    (serviceLadder s).lnc.txGrant = s.lnc.txGrant ∧ (serviceLadder s).lnc.txReq1 = s.lnc.txReq1 ∧
    (serviceLadder s).lnc.txReq2 = s.lnc.txReq2 ∧ (serviceLadder s).lnc.txPose = s.lnc.txPose ∧
    (serviceLadder s).lnc.replies = s.lnc.replies ∧ (serviceLadder s).lnc.half = s.lnc.half ∧
    (serviceLadder s).lnc.lastNotice = s.lnc.lastNotice ∧ (serviceLadder s).lnc.pvcTimer = s.lnc.pvcTimer ∧
    (serviceLadder s).lnc.pvcSilent = s.lnc.pvcSilent ∧ (serviceLadder s).lnc.poseReport = s.lnc.poseReport ∧
    (serviceLadder s).lnc.latch = s.lnc.latch ∧ (serviceLadder s).lnc.commandCrc = s.lnc.commandCrc ∧
    (serviceLadder s).lnc.commandDropped = s.lnc.commandDropped := by
  simp only [serviceLadder]
  (repeat' split) <;> simp

end Sys2Proof.Laws
end

