-- ==== Sys2Proof/Laws/Service.lean ====
section
/-! SUPPORT. What the operations of the Service Unit, the monitors, the Geometry Unit and the Payload Unit change, one lemma each. -/

namespace Sys2Proof.Laws

open Sys2Proof Sys2Proof.Machine

/-- An item replaced. -/
@[simp] theorem setItem_frame (k : Fin 32) (i : Option Item) (s : State) :
    (setItem k i s).pending = s.pending ∧ (setItem k i s).now = s.now ∧ (setItem k i s).draws = s.draws ∧
    (setItem k i s).power = s.power ∧ (setItem k i s).clock = s.clock ∧ (setItem k i s).store = s.store ∧
    (setItem k i s).mdc = s.mdc ∧ (setItem k i s).siu = s.siu ∧ (setItem k i s).gmu = s.gmu ∧
    (setItem k i s).plu = s.plu ∧ (setItem k i s).evu = s.evu ∧ (setItem k i s).eeu = s.eeu ∧
    (setItem k i s).svu.loaded = s.svu.loaded ∧ (setItem k i s).svu.meters = s.svu.meters ∧
    (setItem k i s).svu.fuelRem = s.svu.fuelRem ∧ (setItem k i s).svu.payloadRem = s.svu.payloadRem ∧
    (setItem k i s).svu.slewRem = s.svu.slewRem ∧ (setItem k i s).svu.sums = s.svu.sums ∧
    (setItem k i s).svu.dayMark = s.svu.dayMark ∧ (setItem k i s).svu.summary = s.svu.summary ∧
    (setItem k i s).svu.metersLost = s.svu.metersLost ∧ (setItem k i s).svu.saveTimer = s.svu.saveTimer ∧
    (setItem k i s).svu.reminderTimer = s.svu.reminderTimer ∧
    (setItem k i s).svu.entrySaveBegun = s.svu.entrySaveBegun ∧ (setItem k i s).rts = s.rts ∧
    (setItem k i s).lnc = s.lnc := by
  simp [setItem]

/-- ITEM_STATE (R171). -/
@[simp] theorem notifyItem_frame (k : Fin 32) (st : ItemState) (s : State) :
    (notifyItem k st s).pending = s.pending ∧ (notifyItem k st s).now = s.now ∧ (notifyItem k st s).draws = s.draws ∧
    (notifyItem k st s).power = s.power ∧ (notifyItem k st s).clock = s.clock ∧ (notifyItem k st s).store = s.store ∧
    (notifyItem k st s).mdc = s.mdc ∧ (notifyItem k st s).siu = s.siu ∧ (notifyItem k st s).gmu = s.gmu ∧
    (notifyItem k st s).plu = s.plu ∧ (notifyItem k st s).evu = s.evu ∧ (notifyItem k st s).eeu = s.eeu ∧
    (notifyItem k st s).svu = s.svu ∧ (notifyItem k st s).rts = s.rts ∧ (notifyItem k st s).lnc.ctlA = s.lnc.ctlA ∧
    (notifyItem k st s).lnc.ctlB = s.lnc.ctlB ∧ (notifyItem k st s).lnc.ctlS = s.lnc.ctlS ∧
    (notifyItem k st s).lnc.rateA = s.lnc.rateA ∧ (notifyItem k st s).lnc.rateB = s.lnc.rateB ∧
    (notifyItem k st s).lnc.rateS = s.lnc.rateS ∧ (notifyItem k st s).lnc.txGrant = s.lnc.txGrant ∧
    (notifyItem k st s).lnc.txReq1 = s.lnc.txReq1 ∧ (notifyItem k st s).lnc.txReq2 = s.lnc.txReq2 ∧
    (notifyItem k st s).lnc.txPose = s.lnc.txPose ∧ (notifyItem k st s).lnc.replies = s.lnc.replies ∧
    (notifyItem k st s).lnc.half = s.lnc.half ∧ (notifyItem k st s).lnc.lastNotice = s.lnc.lastNotice ∧
    (notifyItem k st s).lnc.pvcTimer = s.lnc.pvcTimer ∧ (notifyItem k st s).lnc.pvcSilent = s.lnc.pvcSilent ∧
    (notifyItem k st s).lnc.poseReport = s.lnc.poseReport ∧ (notifyItem k st s).lnc.latch = s.lnc.latch ∧
    (notifyItem k st s).lnc.commandCrc = s.lnc.commandCrc ∧
    (notifyItem k st s).lnc.commandDropped = s.lnc.commandDropped := by
  simp [notifyItem]

/-- An item takes a state (R171). -/
@[simp] theorem moveItem_frame (k : Fin 32) (i : Item) (st : ItemState) (s : State) :
    (moveItem k i st s).pending = s.pending ∧ (moveItem k i st s).now = s.now ∧ (moveItem k i st s).draws = s.draws ∧
    (moveItem k i st s).power = s.power ∧ (moveItem k i st s).clock = s.clock ∧ (moveItem k i st s).store = s.store ∧
    (moveItem k i st s).mdc = s.mdc ∧ (moveItem k i st s).siu = s.siu ∧ (moveItem k i st s).gmu = s.gmu ∧
    (moveItem k i st s).plu = s.plu ∧ (moveItem k i st s).evu = s.evu ∧ (moveItem k i st s).eeu = s.eeu ∧
    (moveItem k i st s).svu.loaded = s.svu.loaded ∧ (moveItem k i st s).svu.meters = s.svu.meters ∧
    (moveItem k i st s).svu.fuelRem = s.svu.fuelRem ∧ (moveItem k i st s).svu.payloadRem = s.svu.payloadRem ∧
    (moveItem k i st s).svu.slewRem = s.svu.slewRem ∧ (moveItem k i st s).svu.sums = s.svu.sums ∧
    (moveItem k i st s).svu.dayMark = s.svu.dayMark ∧ (moveItem k i st s).svu.summary = s.svu.summary ∧
    (moveItem k i st s).svu.metersLost = s.svu.metersLost ∧ (moveItem k i st s).svu.saveTimer = s.svu.saveTimer ∧
    (moveItem k i st s).svu.reminderTimer = s.svu.reminderTimer ∧
    (moveItem k i st s).svu.entrySaveBegun = s.svu.entrySaveBegun ∧ (moveItem k i st s).rts = s.rts ∧
    (moveItem k i st s).lnc.ctlA = s.lnc.ctlA ∧ (moveItem k i st s).lnc.ctlB = s.lnc.ctlB ∧
    (moveItem k i st s).lnc.ctlS = s.lnc.ctlS ∧ (moveItem k i st s).lnc.rateA = s.lnc.rateA ∧
    (moveItem k i st s).lnc.rateB = s.lnc.rateB ∧ (moveItem k i st s).lnc.rateS = s.lnc.rateS ∧
    (moveItem k i st s).lnc.txGrant = s.lnc.txGrant ∧ (moveItem k i st s).lnc.txReq1 = s.lnc.txReq1 ∧
    (moveItem k i st s).lnc.txReq2 = s.lnc.txReq2 ∧ (moveItem k i st s).lnc.txPose = s.lnc.txPose ∧
    (moveItem k i st s).lnc.replies = s.lnc.replies ∧ (moveItem k i st s).lnc.half = s.lnc.half ∧
    (moveItem k i st s).lnc.lastNotice = s.lnc.lastNotice ∧ (moveItem k i st s).lnc.pvcTimer = s.lnc.pvcTimer ∧
    (moveItem k i st s).lnc.pvcSilent = s.lnc.pvcSilent ∧ (moveItem k i st s).lnc.poseReport = s.lnc.poseReport ∧
    (moveItem k i st s).lnc.latch = s.lnc.latch ∧ (moveItem k i st s).lnc.commandCrc = s.lnc.commandCrc ∧
    (moveItem k i st s).lnc.commandDropped = s.lnc.commandDropped := by
  simp only [moveItem]
  (repeat' split) <;> simp

/-- An item evaluated (R170). -/
@[simp] theorem evaluateItem_frame (k : Fin 32) (s : State) :
    (evaluateItem k s).pending = s.pending ∧ (evaluateItem k s).now = s.now ∧ (evaluateItem k s).draws = s.draws ∧
    (evaluateItem k s).power = s.power ∧ (evaluateItem k s).clock = s.clock ∧ (evaluateItem k s).store = s.store ∧
    (evaluateItem k s).mdc = s.mdc ∧ (evaluateItem k s).siu = s.siu ∧ (evaluateItem k s).gmu = s.gmu ∧
    (evaluateItem k s).plu = s.plu ∧ (evaluateItem k s).evu = s.evu ∧ (evaluateItem k s).eeu = s.eeu ∧
    (evaluateItem k s).svu.loaded = s.svu.loaded ∧ (evaluateItem k s).svu.meters = s.svu.meters ∧
    (evaluateItem k s).svu.fuelRem = s.svu.fuelRem ∧ (evaluateItem k s).svu.payloadRem = s.svu.payloadRem ∧
    (evaluateItem k s).svu.slewRem = s.svu.slewRem ∧ (evaluateItem k s).svu.sums = s.svu.sums ∧
    (evaluateItem k s).svu.dayMark = s.svu.dayMark ∧ (evaluateItem k s).svu.summary = s.svu.summary ∧
    (evaluateItem k s).svu.metersLost = s.svu.metersLost ∧ (evaluateItem k s).svu.saveTimer = s.svu.saveTimer ∧
    (evaluateItem k s).svu.reminderTimer = s.svu.reminderTimer ∧
    (evaluateItem k s).svu.entrySaveBegun = s.svu.entrySaveBegun ∧ (evaluateItem k s).rts = s.rts ∧
    (evaluateItem k s).lnc.ctlA = s.lnc.ctlA ∧ (evaluateItem k s).lnc.ctlB = s.lnc.ctlB ∧
    (evaluateItem k s).lnc.ctlS = s.lnc.ctlS ∧ (evaluateItem k s).lnc.rateA = s.lnc.rateA ∧
    (evaluateItem k s).lnc.rateB = s.lnc.rateB ∧ (evaluateItem k s).lnc.rateS = s.lnc.rateS ∧
    (evaluateItem k s).lnc.txGrant = s.lnc.txGrant ∧ (evaluateItem k s).lnc.txReq1 = s.lnc.txReq1 ∧
    (evaluateItem k s).lnc.txReq2 = s.lnc.txReq2 ∧ (evaluateItem k s).lnc.txPose = s.lnc.txPose ∧
    (evaluateItem k s).lnc.replies = s.lnc.replies ∧ (evaluateItem k s).lnc.half = s.lnc.half ∧
    (evaluateItem k s).lnc.lastNotice = s.lnc.lastNotice ∧ (evaluateItem k s).lnc.pvcTimer = s.lnc.pvcTimer ∧
    (evaluateItem k s).lnc.pvcSilent = s.lnc.pvcSilent ∧ (evaluateItem k s).lnc.poseReport = s.lnc.poseReport ∧
    (evaluateItem k s).lnc.latch = s.lnc.latch ∧ (evaluateItem k s).lnc.commandCrc = s.lnc.commandCrc ∧
    (evaluateItem k s).lnc.commandDropped = s.lnc.commandDropped := by
  simp only [evaluateItem]
  (repeat' split) <;> simp

/-- Items evaluated (R163, R169). -/
@[simp] theorem evaluateItems_frame (p : Item → Bool) (s : State) :
    (evaluateItems p s).pending = s.pending ∧ (evaluateItems p s).now = s.now ∧ (evaluateItems p s).draws = s.draws ∧
    (evaluateItems p s).power = s.power ∧ (evaluateItems p s).clock = s.clock ∧ (evaluateItems p s).store = s.store ∧
    (evaluateItems p s).mdc = s.mdc ∧ (evaluateItems p s).siu = s.siu ∧ (evaluateItems p s).gmu = s.gmu ∧
    (evaluateItems p s).plu = s.plu ∧ (evaluateItems p s).evu = s.evu ∧ (evaluateItems p s).eeu = s.eeu ∧
    (evaluateItems p s).svu.loaded = s.svu.loaded ∧ (evaluateItems p s).svu.meters = s.svu.meters ∧
    (evaluateItems p s).svu.fuelRem = s.svu.fuelRem ∧ (evaluateItems p s).svu.payloadRem = s.svu.payloadRem ∧
    (evaluateItems p s).svu.slewRem = s.svu.slewRem ∧ (evaluateItems p s).svu.sums = s.svu.sums ∧
    (evaluateItems p s).svu.dayMark = s.svu.dayMark ∧ (evaluateItems p s).svu.summary = s.svu.summary ∧
    (evaluateItems p s).svu.metersLost = s.svu.metersLost ∧ (evaluateItems p s).svu.saveTimer = s.svu.saveTimer ∧
    (evaluateItems p s).svu.reminderTimer = s.svu.reminderTimer ∧
    (evaluateItems p s).svu.entrySaveBegun = s.svu.entrySaveBegun ∧ (evaluateItems p s).rts = s.rts ∧
    (evaluateItems p s).lnc.ctlA = s.lnc.ctlA ∧ (evaluateItems p s).lnc.ctlB = s.lnc.ctlB ∧
    (evaluateItems p s).lnc.ctlS = s.lnc.ctlS ∧ (evaluateItems p s).lnc.rateA = s.lnc.rateA ∧
    (evaluateItems p s).lnc.rateB = s.lnc.rateB ∧ (evaluateItems p s).lnc.rateS = s.lnc.rateS ∧
    (evaluateItems p s).lnc.txGrant = s.lnc.txGrant ∧ (evaluateItems p s).lnc.txReq1 = s.lnc.txReq1 ∧
    (evaluateItems p s).lnc.txReq2 = s.lnc.txReq2 ∧ (evaluateItems p s).lnc.txPose = s.lnc.txPose ∧
    (evaluateItems p s).lnc.replies = s.lnc.replies ∧ (evaluateItems p s).lnc.half = s.lnc.half ∧
    (evaluateItems p s).lnc.lastNotice = s.lnc.lastNotice ∧ (evaluateItems p s).lnc.pvcTimer = s.lnc.pvcTimer ∧
    (evaluateItems p s).lnc.pvcSilent = s.lnc.pvcSilent ∧ (evaluateItems p s).lnc.poseReport = s.lnc.poseReport ∧
    (evaluateItems p s).lnc.latch = s.lnc.latch ∧ (evaluateItems p s).lnc.commandCrc = s.lnc.commandCrc ∧
    (evaluateItems p s).lnc.commandDropped = s.lnc.commandDropped := by
  unfold evaluateItems
  generalize allItems = l
  induction l generalizing s with
  | nil => simp
  | cons k l ih =>
    simp only [List.foldl_cons, ih]
    (repeat' split) <;> simp

/-- The restriction summary (R177). -/
@[simp] theorem formSummary_frame (s : State) :
    (formSummary s).pending = s.pending ∧ (formSummary s).now = s.now ∧ (formSummary s).draws = s.draws ∧
    (formSummary s).power = s.power ∧ (formSummary s).clock = s.clock ∧ (formSummary s).store = s.store ∧
    (formSummary s).mdc = s.mdc ∧ (formSummary s).siu = s.siu ∧ (formSummary s).gmu = s.gmu ∧
    (formSummary s).plu = s.plu ∧ (formSummary s).evu.fences = s.evu.fences ∧
    (formSummary s).evu.dataLost = s.evu.dataLost ∧ (formSummary s).evu.levers = s.evu.levers ∧
    (formSummary s).evu.grant = s.evu.grant ∧ (formSummary s).evu.refresh = s.evu.refresh ∧
    (formSummary s).evu.outstanding = s.evu.outstanding ∧ (formSummary s).evu.unconfirmed = s.evu.unconfirmed ∧
    (formSummary s).eeu = s.eeu ∧ (formSummary s).svu.loaded = s.svu.loaded ∧
    (formSummary s).svu.meters = s.svu.meters ∧ (formSummary s).svu.fuelRem = s.svu.fuelRem ∧
    (formSummary s).svu.payloadRem = s.svu.payloadRem ∧ (formSummary s).svu.slewRem = s.svu.slewRem ∧
    (formSummary s).svu.sums = s.svu.sums ∧ (formSummary s).svu.dayMark = s.svu.dayMark ∧
    (formSummary s).svu.items = s.svu.items ∧ (formSummary s).svu.metersLost = s.svu.metersLost ∧
    (formSummary s).svu.saveTimer = s.svu.saveTimer ∧ (formSummary s).svu.reminderTimer = s.svu.reminderTimer ∧
    (formSummary s).svu.entrySaveBegun = s.svu.entrySaveBegun ∧ (formSummary s).rts = s.rts ∧
    (formSummary s).lnc.ctlA = s.lnc.ctlA ∧ (formSummary s).lnc.ctlB = s.lnc.ctlB ∧
    (formSummary s).lnc.ctlS = s.lnc.ctlS ∧ (formSummary s).lnc.rateA = s.lnc.rateA ∧
    (formSummary s).lnc.rateB = s.lnc.rateB ∧ (formSummary s).lnc.rateS = s.lnc.rateS ∧
    (formSummary s).lnc.txGrant = s.lnc.txGrant ∧ (formSummary s).lnc.txReq1 = s.lnc.txReq1 ∧
    (formSummary s).lnc.txReq2 = s.lnc.txReq2 ∧ (formSummary s).lnc.txPose = s.lnc.txPose ∧
    (formSummary s).lnc.replies = s.lnc.replies ∧ (formSummary s).lnc.half = s.lnc.half ∧
    (formSummary s).lnc.lastNotice = s.lnc.lastNotice ∧ (formSummary s).lnc.pvcTimer = s.lnc.pvcTimer ∧
    (formSummary s).lnc.pvcSilent = s.lnc.pvcSilent ∧ (formSummary s).lnc.poseReport = s.lnc.poseReport ∧
    (formSummary s).lnc.latch = s.lnc.latch ∧ (formSummary s).lnc.commandCrc = s.lnc.commandCrc ∧
    (formSummary s).lnc.commandDropped = s.lnc.commandDropped := by
  simp only [formSummary]
  (repeat' split) <;> simp

@[simp] theorem formSummary_summary (s : State) : (formSummary s).svu.summary = summaryOf s.svu.items := by
  simp only [formSummary]
  split <;> simp_all

/-- The summary settled once an event's meters have changed (R171). -/
@[simp] theorem settleSummary_frame (s0 s : State) :
    (settleSummary s0 s).pending = s.pending ∧ (settleSummary s0 s).now = s.now ∧
    (settleSummary s0 s).draws = s.draws ∧ (settleSummary s0 s).power = s.power ∧
    (settleSummary s0 s).clock = s.clock ∧ (settleSummary s0 s).store = s.store ∧ (settleSummary s0 s).mdc = s.mdc ∧
    (settleSummary s0 s).siu = s.siu ∧ (settleSummary s0 s).gmu = s.gmu ∧ (settleSummary s0 s).plu = s.plu ∧
    (settleSummary s0 s).evu.fences = s.evu.fences ∧ (settleSummary s0 s).evu.dataLost = s.evu.dataLost ∧
    (settleSummary s0 s).evu.levers = s.evu.levers ∧ (settleSummary s0 s).evu.grant = s.evu.grant ∧
    (settleSummary s0 s).evu.refresh = s.evu.refresh ∧ (settleSummary s0 s).evu.outstanding = s.evu.outstanding ∧
    (settleSummary s0 s).evu.unconfirmed = s.evu.unconfirmed ∧ (settleSummary s0 s).eeu = s.eeu ∧
    (settleSummary s0 s).svu.loaded = s.svu.loaded ∧ (settleSummary s0 s).svu.meters = s.svu.meters ∧
    (settleSummary s0 s).svu.fuelRem = s.svu.fuelRem ∧ (settleSummary s0 s).svu.payloadRem = s.svu.payloadRem ∧
    (settleSummary s0 s).svu.slewRem = s.svu.slewRem ∧ (settleSummary s0 s).svu.sums = s.svu.sums ∧
    (settleSummary s0 s).svu.dayMark = s.svu.dayMark ∧ (settleSummary s0 s).svu.items = s.svu.items ∧
    (settleSummary s0 s).svu.metersLost = s.svu.metersLost ∧ (settleSummary s0 s).svu.saveTimer = s.svu.saveTimer ∧
    (settleSummary s0 s).svu.reminderTimer = s.svu.reminderTimer ∧
    (settleSummary s0 s).svu.entrySaveBegun = s.svu.entrySaveBegun ∧ (settleSummary s0 s).rts = s.rts ∧
    (settleSummary s0 s).lnc.ctlA = s.lnc.ctlA ∧ (settleSummary s0 s).lnc.ctlB = s.lnc.ctlB ∧
    (settleSummary s0 s).lnc.ctlS = s.lnc.ctlS ∧ (settleSummary s0 s).lnc.rateA = s.lnc.rateA ∧
    (settleSummary s0 s).lnc.rateB = s.lnc.rateB ∧ (settleSummary s0 s).lnc.rateS = s.lnc.rateS ∧
    (settleSummary s0 s).lnc.txGrant = s.lnc.txGrant ∧ (settleSummary s0 s).lnc.txReq1 = s.lnc.txReq1 ∧
    (settleSummary s0 s).lnc.txReq2 = s.lnc.txReq2 ∧ (settleSummary s0 s).lnc.txPose = s.lnc.txPose ∧
    (settleSummary s0 s).lnc.replies = s.lnc.replies ∧ (settleSummary s0 s).lnc.half = s.lnc.half ∧
    (settleSummary s0 s).lnc.lastNotice = s.lnc.lastNotice ∧ (settleSummary s0 s).lnc.pvcTimer = s.lnc.pvcTimer ∧
    (settleSummary s0 s).lnc.pvcSilent = s.lnc.pvcSilent ∧ (settleSummary s0 s).lnc.poseReport = s.lnc.poseReport ∧
    (settleSummary s0 s).lnc.latch = s.lnc.latch ∧ (settleSummary s0 s).lnc.commandCrc = s.lnc.commandCrc ∧
    (settleSummary s0 s).lnc.commandDropped = s.lnc.commandDropped := by
  simp only [settleSummary]
  split <;> simp

/-- The summary after an event's meters have changed: formed from the items as they all stand (R171, R177). -/
@[simp] theorem settleSummary_summary (s0 s : State) :
    (settleSummary s0 s).svu.summary =
      if s.svu.meters = s0.svu.meters then s.svu.summary else summaryOf s.svu.items := by
  simp only [settleSummary]
  split <;> simp

/-- METERS asked for again in CLOSING (R165). -/
@[simp] theorem closingSave_frame (s : State) :
    (closingSave s).pending = s.pending ∧ (closingSave s).now = s.now ∧ (closingSave s).draws = s.draws ∧
    (closingSave s).power = s.power ∧ (closingSave s).clock = s.clock ∧ (closingSave s).store = s.store ∧
    (closingSave s).mdc.mode = s.mdc.mode ∧ (closingSave s).mdc.cause = s.mdc.cause ∧
    (closingSave s).mdc.keyState = s.mdc.keyState ∧ (closingSave s).mdc.lockout = s.mdc.lockout ∧
    (closingSave s).mdc.calStatus = s.mdc.calStatus ∧ (closingSave s).mdc.stSilence = s.mdc.stSilence ∧
    (closingSave s).mdc.resetPending = s.mdc.resetPending ∧ (closingSave s).mdc.resetWait = s.mdc.resetWait ∧
    (closingSave s).siu = s.siu ∧ (closingSave s).gmu = s.gmu ∧ (closingSave s).plu = s.plu ∧
    (closingSave s).evu = s.evu ∧ (closingSave s).eeu = s.eeu ∧ (closingSave s).svu = s.svu ∧
    (closingSave s).rts.cal = s.rts.cal ∧ (closingSave s).rts.inFlight = s.rts.inFlight ∧
    (closingSave s).rts.failed = s.rts.failed ∧ (closingSave s).rts.token = s.rts.token ∧
    (closingSave s).lnc = s.lnc := by
  simp only [closingSave]
  (repeat' split) <;> simp

/-- A meter takes a value (R163). -/
@[simp] theorem setMeter_frame (m : Meter) (v : Nat) (s : State) :
    (setMeter m v s).pending = s.pending ∧ (setMeter m v s).now = s.now ∧ (setMeter m v s).draws = s.draws ∧
    (setMeter m v s).power = s.power ∧ (setMeter m v s).clock = s.clock ∧ (setMeter m v s).store = s.store ∧
    (setMeter m v s).mdc.mode = s.mdc.mode ∧ (setMeter m v s).mdc.cause = s.mdc.cause ∧
    (setMeter m v s).mdc.keyState = s.mdc.keyState ∧ (setMeter m v s).mdc.lockout = s.mdc.lockout ∧
    (setMeter m v s).mdc.calStatus = s.mdc.calStatus ∧ (setMeter m v s).mdc.stSilence = s.mdc.stSilence ∧
    (setMeter m v s).mdc.resetPending = s.mdc.resetPending ∧ (setMeter m v s).mdc.resetWait = s.mdc.resetWait ∧
    (setMeter m v s).siu = s.siu ∧ (setMeter m v s).gmu = s.gmu ∧ (setMeter m v s).plu = s.plu ∧
    (setMeter m v s).evu = s.evu ∧ (setMeter m v s).eeu = s.eeu ∧ (setMeter m v s).svu.loaded = s.svu.loaded ∧
    (setMeter m v s).svu.fuelRem = s.svu.fuelRem ∧ (setMeter m v s).svu.payloadRem = s.svu.payloadRem ∧
    (setMeter m v s).svu.slewRem = s.svu.slewRem ∧ (setMeter m v s).svu.sums = s.svu.sums ∧
    (setMeter m v s).svu.dayMark = s.svu.dayMark ∧ (setMeter m v s).svu.metersLost = s.svu.metersLost ∧
    (setMeter m v s).svu.summary = s.svu.summary ∧ (setMeter m v s).svu.saveTimer = s.svu.saveTimer ∧
    (setMeter m v s).svu.reminderTimer = s.svu.reminderTimer ∧
    (setMeter m v s).svu.entrySaveBegun = s.svu.entrySaveBegun ∧ (setMeter m v s).rts.cal = s.rts.cal ∧
    (setMeter m v s).rts.inFlight = s.rts.inFlight ∧ (setMeter m v s).rts.failed = s.rts.failed ∧
    (setMeter m v s).rts.token = s.rts.token ∧ (setMeter m v s).lnc.ctlA = s.lnc.ctlA ∧
    (setMeter m v s).lnc.ctlB = s.lnc.ctlB ∧ (setMeter m v s).lnc.ctlS = s.lnc.ctlS ∧
    (setMeter m v s).lnc.rateA = s.lnc.rateA ∧ (setMeter m v s).lnc.rateB = s.lnc.rateB ∧
    (setMeter m v s).lnc.rateS = s.lnc.rateS ∧ (setMeter m v s).lnc.txGrant = s.lnc.txGrant ∧
    (setMeter m v s).lnc.txReq1 = s.lnc.txReq1 ∧ (setMeter m v s).lnc.txReq2 = s.lnc.txReq2 ∧
    (setMeter m v s).lnc.txPose = s.lnc.txPose ∧ (setMeter m v s).lnc.replies = s.lnc.replies ∧
    (setMeter m v s).lnc.half = s.lnc.half ∧ (setMeter m v s).lnc.lastNotice = s.lnc.lastNotice ∧
    (setMeter m v s).lnc.pvcTimer = s.lnc.pvcTimer ∧ (setMeter m v s).lnc.pvcSilent = s.lnc.pvcSilent ∧
    (setMeter m v s).lnc.poseReport = s.lnc.poseReport ∧ (setMeter m v s).lnc.latch = s.lnc.latch ∧
    (setMeter m v s).lnc.commandCrc = s.lnc.commandCrc ∧
    (setMeter m v s).lnc.commandDropped = s.lnc.commandDropped := by
  simp only [setMeter]
  (repeat' split) <;> simp

@[simp] theorem setMeter_meters (m : Meter) (v : Nat) (s : State) :
    (setMeter m v s).svu.meters = meterSet s.svu.meters m v := by
  unfold setMeter
  split
  · rename_i h; subst h; cases m <;> rfl
  · simp

/-- An amount added to a meter (R163). -/
@[simp] theorem addMeter_frame (m : Meter) (n : Nat) (s : State) :
    (addMeter m n s).pending = s.pending ∧ (addMeter m n s).now = s.now ∧ (addMeter m n s).draws = s.draws ∧
    (addMeter m n s).power = s.power ∧ (addMeter m n s).clock = s.clock ∧ (addMeter m n s).store = s.store ∧
    (addMeter m n s).mdc.mode = s.mdc.mode ∧ (addMeter m n s).mdc.cause = s.mdc.cause ∧
    (addMeter m n s).mdc.keyState = s.mdc.keyState ∧ (addMeter m n s).mdc.lockout = s.mdc.lockout ∧
    (addMeter m n s).mdc.calStatus = s.mdc.calStatus ∧ (addMeter m n s).mdc.stSilence = s.mdc.stSilence ∧
    (addMeter m n s).mdc.resetPending = s.mdc.resetPending ∧ (addMeter m n s).mdc.resetWait = s.mdc.resetWait ∧
    (addMeter m n s).siu = s.siu ∧ (addMeter m n s).gmu = s.gmu ∧ (addMeter m n s).plu = s.plu ∧
    (addMeter m n s).evu = s.evu ∧ (addMeter m n s).eeu = s.eeu ∧ (addMeter m n s).svu.loaded = s.svu.loaded ∧
    (addMeter m n s).svu.fuelRem = s.svu.fuelRem ∧ (addMeter m n s).svu.payloadRem = s.svu.payloadRem ∧
    (addMeter m n s).svu.slewRem = s.svu.slewRem ∧ (addMeter m n s).svu.sums = s.svu.sums ∧
    (addMeter m n s).svu.dayMark = s.svu.dayMark ∧ (addMeter m n s).svu.metersLost = s.svu.metersLost ∧
    (addMeter m n s).svu.summary = s.svu.summary ∧ (addMeter m n s).svu.saveTimer = s.svu.saveTimer ∧
    (addMeter m n s).svu.reminderTimer = s.svu.reminderTimer ∧
    (addMeter m n s).svu.entrySaveBegun = s.svu.entrySaveBegun ∧ (addMeter m n s).rts.cal = s.rts.cal ∧
    (addMeter m n s).rts.inFlight = s.rts.inFlight ∧ (addMeter m n s).rts.failed = s.rts.failed ∧
    (addMeter m n s).rts.token = s.rts.token ∧ (addMeter m n s).lnc.ctlA = s.lnc.ctlA ∧
    (addMeter m n s).lnc.ctlB = s.lnc.ctlB ∧ (addMeter m n s).lnc.ctlS = s.lnc.ctlS ∧
    (addMeter m n s).lnc.rateA = s.lnc.rateA ∧ (addMeter m n s).lnc.rateB = s.lnc.rateB ∧
    (addMeter m n s).lnc.rateS = s.lnc.rateS ∧ (addMeter m n s).lnc.txGrant = s.lnc.txGrant ∧
    (addMeter m n s).lnc.txReq1 = s.lnc.txReq1 ∧ (addMeter m n s).lnc.txReq2 = s.lnc.txReq2 ∧
    (addMeter m n s).lnc.txPose = s.lnc.txPose ∧ (addMeter m n s).lnc.replies = s.lnc.replies ∧
    (addMeter m n s).lnc.half = s.lnc.half ∧ (addMeter m n s).lnc.lastNotice = s.lnc.lastNotice ∧
    (addMeter m n s).lnc.pvcTimer = s.lnc.pvcTimer ∧ (addMeter m n s).lnc.pvcSilent = s.lnc.pvcSilent ∧
    (addMeter m n s).lnc.poseReport = s.lnc.poseReport ∧ (addMeter m n s).lnc.latch = s.lnc.latch ∧
    (addMeter m n s).lnc.commandCrc = s.lnc.commandCrc ∧
    (addMeter m n s).lnc.commandDropped = s.lnc.commandDropped := by
  simp [addMeter]

/-- A remainder replaced (R162). -/
@[simp] theorem remainderSet_frame (m : Meter) (v : Nat) (s : State) :
    (remainderSet m v s).pending = s.pending ∧ (remainderSet m v s).now = s.now ∧
    (remainderSet m v s).draws = s.draws ∧ (remainderSet m v s).power = s.power ∧
    (remainderSet m v s).clock = s.clock ∧ (remainderSet m v s).store = s.store ∧ (remainderSet m v s).mdc = s.mdc ∧
    (remainderSet m v s).siu = s.siu ∧ (remainderSet m v s).gmu = s.gmu ∧ (remainderSet m v s).plu = s.plu ∧
    (remainderSet m v s).evu = s.evu ∧ (remainderSet m v s).eeu = s.eeu ∧
    (remainderSet m v s).svu.loaded = s.svu.loaded ∧ (remainderSet m v s).svu.meters = s.svu.meters ∧
    (remainderSet m v s).svu.sums = s.svu.sums ∧ (remainderSet m v s).svu.dayMark = s.svu.dayMark ∧
    (remainderSet m v s).svu.items = s.svu.items ∧ (remainderSet m v s).svu.summary = s.svu.summary ∧
    (remainderSet m v s).svu.metersLost = s.svu.metersLost ∧ (remainderSet m v s).svu.saveTimer = s.svu.saveTimer ∧
    (remainderSet m v s).svu.reminderTimer = s.svu.reminderTimer ∧
    (remainderSet m v s).svu.entrySaveBegun = s.svu.entrySaveBegun ∧ (remainderSet m v s).rts = s.rts ∧
    (remainderSet m v s).lnc = s.lnc := by
  cases m <;> simp [remainderSet]

/-- An increment applied (R163). -/
@[simp] theorem applyIncrement_frame (m : Meter) (n : Nat) (s : State) :
    (applyIncrement m n s).pending = s.pending ∧ (applyIncrement m n s).now = s.now ∧
    (applyIncrement m n s).draws = s.draws ∧ (applyIncrement m n s).power = s.power ∧
    (applyIncrement m n s).clock = s.clock ∧ (applyIncrement m n s).store = s.store ∧
    (applyIncrement m n s).mdc.mode = s.mdc.mode ∧ (applyIncrement m n s).mdc.cause = s.mdc.cause ∧
    (applyIncrement m n s).mdc.keyState = s.mdc.keyState ∧ (applyIncrement m n s).mdc.lockout = s.mdc.lockout ∧
    (applyIncrement m n s).mdc.calStatus = s.mdc.calStatus ∧ (applyIncrement m n s).mdc.stSilence = s.mdc.stSilence ∧
    (applyIncrement m n s).mdc.resetPending = s.mdc.resetPending ∧
    (applyIncrement m n s).mdc.resetWait = s.mdc.resetWait ∧ (applyIncrement m n s).siu = s.siu ∧
    (applyIncrement m n s).gmu = s.gmu ∧ (applyIncrement m n s).plu = s.plu ∧ (applyIncrement m n s).evu = s.evu ∧
    (applyIncrement m n s).eeu = s.eeu ∧ (applyIncrement m n s).svu.loaded = s.svu.loaded ∧
    (applyIncrement m n s).svu.sums = s.svu.sums ∧ (applyIncrement m n s).svu.dayMark = s.svu.dayMark ∧
    (applyIncrement m n s).svu.metersLost = s.svu.metersLost ∧ (applyIncrement m n s).svu.summary = s.svu.summary ∧
    (applyIncrement m n s).svu.saveTimer = s.svu.saveTimer ∧
    (applyIncrement m n s).svu.reminderTimer = s.svu.reminderTimer ∧
    (applyIncrement m n s).svu.entrySaveBegun = s.svu.entrySaveBegun ∧ (applyIncrement m n s).rts.cal = s.rts.cal ∧
    (applyIncrement m n s).rts.inFlight = s.rts.inFlight ∧ (applyIncrement m n s).rts.failed = s.rts.failed ∧
    (applyIncrement m n s).rts.token = s.rts.token ∧ (applyIncrement m n s).lnc.ctlA = s.lnc.ctlA ∧
    (applyIncrement m n s).lnc.ctlB = s.lnc.ctlB ∧ (applyIncrement m n s).lnc.ctlS = s.lnc.ctlS ∧
    (applyIncrement m n s).lnc.rateA = s.lnc.rateA ∧ (applyIncrement m n s).lnc.rateB = s.lnc.rateB ∧
    (applyIncrement m n s).lnc.rateS = s.lnc.rateS ∧ (applyIncrement m n s).lnc.txGrant = s.lnc.txGrant ∧
    (applyIncrement m n s).lnc.txReq1 = s.lnc.txReq1 ∧ (applyIncrement m n s).lnc.txReq2 = s.lnc.txReq2 ∧
    (applyIncrement m n s).lnc.txPose = s.lnc.txPose ∧ (applyIncrement m n s).lnc.replies = s.lnc.replies ∧
    (applyIncrement m n s).lnc.half = s.lnc.half ∧ (applyIncrement m n s).lnc.lastNotice = s.lnc.lastNotice ∧
    (applyIncrement m n s).lnc.pvcTimer = s.lnc.pvcTimer ∧ (applyIncrement m n s).lnc.pvcSilent = s.lnc.pvcSilent ∧
    (applyIncrement m n s).lnc.poseReport = s.lnc.poseReport ∧ (applyIncrement m n s).lnc.latch = s.lnc.latch ∧
    (applyIncrement m n s).lnc.commandCrc = s.lnc.commandCrc ∧
    (applyIncrement m n s).lnc.commandDropped = s.lnc.commandDropped := by
  simp only [applyIncrement]
  (repeat' split) <;> simp

/-- An increment handed to the SVU (R163, R164). -/
@[simp] theorem increment_frame (m : Meter) (n : Nat) (s : State) :
    (increment m n s).pending = s.pending ∧ (increment m n s).now = s.now ∧ (increment m n s).draws = s.draws ∧
    (increment m n s).power = s.power ∧ (increment m n s).clock = s.clock ∧ (increment m n s).store = s.store ∧
    (increment m n s).mdc.mode = s.mdc.mode ∧ (increment m n s).mdc.cause = s.mdc.cause ∧
    (increment m n s).mdc.keyState = s.mdc.keyState ∧ (increment m n s).mdc.lockout = s.mdc.lockout ∧
    (increment m n s).mdc.calStatus = s.mdc.calStatus ∧ (increment m n s).mdc.stSilence = s.mdc.stSilence ∧
    (increment m n s).mdc.resetPending = s.mdc.resetPending ∧ (increment m n s).mdc.resetWait = s.mdc.resetWait ∧
    (increment m n s).siu = s.siu ∧ (increment m n s).gmu = s.gmu ∧ (increment m n s).plu = s.plu ∧
    (increment m n s).evu = s.evu ∧ (increment m n s).eeu = s.eeu ∧ (increment m n s).svu.loaded = s.svu.loaded ∧
    (increment m n s).svu.dayMark = s.svu.dayMark ∧ (increment m n s).svu.metersLost = s.svu.metersLost ∧
    (increment m n s).svu.summary = s.svu.summary ∧ (increment m n s).svu.saveTimer = s.svu.saveTimer ∧
    (increment m n s).svu.reminderTimer = s.svu.reminderTimer ∧
    (increment m n s).svu.entrySaveBegun = s.svu.entrySaveBegun ∧ (increment m n s).rts.cal = s.rts.cal ∧
    (increment m n s).rts.inFlight = s.rts.inFlight ∧ (increment m n s).rts.failed = s.rts.failed ∧
    (increment m n s).rts.token = s.rts.token ∧ (increment m n s).lnc.ctlA = s.lnc.ctlA ∧
    (increment m n s).lnc.ctlB = s.lnc.ctlB ∧ (increment m n s).lnc.ctlS = s.lnc.ctlS ∧
    (increment m n s).lnc.rateA = s.lnc.rateA ∧ (increment m n s).lnc.rateB = s.lnc.rateB ∧
    (increment m n s).lnc.rateS = s.lnc.rateS ∧ (increment m n s).lnc.txGrant = s.lnc.txGrant ∧
    (increment m n s).lnc.txReq1 = s.lnc.txReq1 ∧ (increment m n s).lnc.txReq2 = s.lnc.txReq2 ∧
    (increment m n s).lnc.txPose = s.lnc.txPose ∧ (increment m n s).lnc.replies = s.lnc.replies ∧
    (increment m n s).lnc.half = s.lnc.half ∧ (increment m n s).lnc.lastNotice = s.lnc.lastNotice ∧
    (increment m n s).lnc.pvcTimer = s.lnc.pvcTimer ∧ (increment m n s).lnc.pvcSilent = s.lnc.pvcSilent ∧
    (increment m n s).lnc.poseReport = s.lnc.poseReport ∧ (increment m n s).lnc.latch = s.lnc.latch ∧
    (increment m n s).lnc.commandCrc = s.lnc.commandCrc ∧
    (increment m n s).lnc.commandDropped = s.lnc.commandDropped := by
  simp only [increment]
  (repeat' split) <;> simp

/-- The pending sums applied one by one (R164). -/
@[simp] theorem applyIncrements_frame (z : PerMeter) (l : List Meter) (s : State) :
    (l.foldl (fun s m => applyIncrement m (meterGet z m) s) s).pending = s.pending ∧
    (l.foldl (fun s m => applyIncrement m (meterGet z m) s) s).now = s.now ∧
    (l.foldl (fun s m => applyIncrement m (meterGet z m) s) s).draws = s.draws ∧
    (l.foldl (fun s m => applyIncrement m (meterGet z m) s) s).power = s.power ∧
    (l.foldl (fun s m => applyIncrement m (meterGet z m) s) s).clock = s.clock ∧
    (l.foldl (fun s m => applyIncrement m (meterGet z m) s) s).store = s.store ∧
    (l.foldl (fun s m => applyIncrement m (meterGet z m) s) s).mdc.mode = s.mdc.mode ∧
    (l.foldl (fun s m => applyIncrement m (meterGet z m) s) s).mdc.cause = s.mdc.cause ∧
    (l.foldl (fun s m => applyIncrement m (meterGet z m) s) s).mdc.keyState = s.mdc.keyState ∧
    (l.foldl (fun s m => applyIncrement m (meterGet z m) s) s).mdc.lockout = s.mdc.lockout ∧
    (l.foldl (fun s m => applyIncrement m (meterGet z m) s) s).mdc.calStatus = s.mdc.calStatus ∧
    (l.foldl (fun s m => applyIncrement m (meterGet z m) s) s).mdc.stSilence = s.mdc.stSilence ∧
    (l.foldl (fun s m => applyIncrement m (meterGet z m) s) s).mdc.resetPending = s.mdc.resetPending ∧
    (l.foldl (fun s m => applyIncrement m (meterGet z m) s) s).mdc.resetWait = s.mdc.resetWait ∧
    (l.foldl (fun s m => applyIncrement m (meterGet z m) s) s).siu = s.siu ∧
    (l.foldl (fun s m => applyIncrement m (meterGet z m) s) s).gmu = s.gmu ∧
    (l.foldl (fun s m => applyIncrement m (meterGet z m) s) s).plu = s.plu ∧
    (l.foldl (fun s m => applyIncrement m (meterGet z m) s) s).evu = s.evu ∧
    (l.foldl (fun s m => applyIncrement m (meterGet z m) s) s).eeu = s.eeu ∧
    (l.foldl (fun s m => applyIncrement m (meterGet z m) s) s).svu.loaded = s.svu.loaded ∧
    (l.foldl (fun s m => applyIncrement m (meterGet z m) s) s).svu.sums = s.svu.sums ∧
    (l.foldl (fun s m => applyIncrement m (meterGet z m) s) s).svu.dayMark = s.svu.dayMark ∧
    (l.foldl (fun s m => applyIncrement m (meterGet z m) s) s).svu.metersLost = s.svu.metersLost ∧
    (l.foldl (fun s m => applyIncrement m (meterGet z m) s) s).svu.summary = s.svu.summary ∧
    (l.foldl (fun s m => applyIncrement m (meterGet z m) s) s).svu.saveTimer = s.svu.saveTimer ∧
    (l.foldl (fun s m => applyIncrement m (meterGet z m) s) s).svu.reminderTimer = s.svu.reminderTimer ∧
    (l.foldl (fun s m => applyIncrement m (meterGet z m) s) s).svu.entrySaveBegun = s.svu.entrySaveBegun ∧
    (l.foldl (fun s m => applyIncrement m (meterGet z m) s) s).rts.cal = s.rts.cal ∧
    (l.foldl (fun s m => applyIncrement m (meterGet z m) s) s).rts.inFlight = s.rts.inFlight ∧
    (l.foldl (fun s m => applyIncrement m (meterGet z m) s) s).rts.failed = s.rts.failed ∧
    (l.foldl (fun s m => applyIncrement m (meterGet z m) s) s).rts.token = s.rts.token ∧
    (l.foldl (fun s m => applyIncrement m (meterGet z m) s) s).lnc.ctlA = s.lnc.ctlA ∧
    (l.foldl (fun s m => applyIncrement m (meterGet z m) s) s).lnc.ctlB = s.lnc.ctlB ∧
    (l.foldl (fun s m => applyIncrement m (meterGet z m) s) s).lnc.ctlS = s.lnc.ctlS ∧
    (l.foldl (fun s m => applyIncrement m (meterGet z m) s) s).lnc.rateA = s.lnc.rateA ∧
    (l.foldl (fun s m => applyIncrement m (meterGet z m) s) s).lnc.rateB = s.lnc.rateB ∧
    (l.foldl (fun s m => applyIncrement m (meterGet z m) s) s).lnc.rateS = s.lnc.rateS ∧
    (l.foldl (fun s m => applyIncrement m (meterGet z m) s) s).lnc.txGrant = s.lnc.txGrant ∧
    (l.foldl (fun s m => applyIncrement m (meterGet z m) s) s).lnc.txReq1 = s.lnc.txReq1 ∧
    (l.foldl (fun s m => applyIncrement m (meterGet z m) s) s).lnc.txReq2 = s.lnc.txReq2 ∧
    (l.foldl (fun s m => applyIncrement m (meterGet z m) s) s).lnc.txPose = s.lnc.txPose ∧
    (l.foldl (fun s m => applyIncrement m (meterGet z m) s) s).lnc.replies = s.lnc.replies ∧
    (l.foldl (fun s m => applyIncrement m (meterGet z m) s) s).lnc.half = s.lnc.half ∧
    (l.foldl (fun s m => applyIncrement m (meterGet z m) s) s).lnc.lastNotice = s.lnc.lastNotice ∧
    (l.foldl (fun s m => applyIncrement m (meterGet z m) s) s).lnc.pvcTimer = s.lnc.pvcTimer ∧
    (l.foldl (fun s m => applyIncrement m (meterGet z m) s) s).lnc.pvcSilent = s.lnc.pvcSilent ∧
    (l.foldl (fun s m => applyIncrement m (meterGet z m) s) s).lnc.poseReport = s.lnc.poseReport ∧
    (l.foldl (fun s m => applyIncrement m (meterGet z m) s) s).lnc.latch = s.lnc.latch ∧
    (l.foldl (fun s m => applyIncrement m (meterGet z m) s) s).lnc.commandCrc = s.lnc.commandCrc ∧
    (l.foldl (fun s m => applyIncrement m (meterGet z m) s) s).lnc.commandDropped = s.lnc.commandDropped := by
  induction l generalizing s with
  | nil => simp
  | cons k l ih => simp only [List.foldl_cons, ih]; simp

/-- The pending sums applied (R164). -/
@[simp] theorem applySums_frame (s : State) :
    (applySums s).pending = s.pending ∧ (applySums s).now = s.now ∧ (applySums s).draws = s.draws ∧
    (applySums s).power = s.power ∧ (applySums s).clock = s.clock ∧ (applySums s).store = s.store ∧
    (applySums s).mdc.mode = s.mdc.mode ∧ (applySums s).mdc.cause = s.mdc.cause ∧
    (applySums s).mdc.keyState = s.mdc.keyState ∧ (applySums s).mdc.lockout = s.mdc.lockout ∧
    (applySums s).mdc.calStatus = s.mdc.calStatus ∧ (applySums s).mdc.stSilence = s.mdc.stSilence ∧
    (applySums s).mdc.resetPending = s.mdc.resetPending ∧ (applySums s).mdc.resetWait = s.mdc.resetWait ∧
    (applySums s).siu = s.siu ∧ (applySums s).gmu = s.gmu ∧ (applySums s).plu = s.plu ∧ (applySums s).evu = s.evu ∧
    (applySums s).eeu = s.eeu ∧ (applySums s).svu.loaded = s.svu.loaded ∧ (applySums s).svu.dayMark = s.svu.dayMark ∧
    (applySums s).svu.metersLost = s.svu.metersLost ∧ (applySums s).svu.summary = s.svu.summary ∧
    (applySums s).svu.saveTimer = s.svu.saveTimer ∧ (applySums s).svu.reminderTimer = s.svu.reminderTimer ∧
    (applySums s).svu.entrySaveBegun = s.svu.entrySaveBegun ∧ (applySums s).rts.cal = s.rts.cal ∧
    (applySums s).rts.inFlight = s.rts.inFlight ∧ (applySums s).rts.failed = s.rts.failed ∧
    (applySums s).rts.token = s.rts.token ∧ (applySums s).lnc.ctlA = s.lnc.ctlA ∧
    (applySums s).lnc.ctlB = s.lnc.ctlB ∧ (applySums s).lnc.ctlS = s.lnc.ctlS ∧
    (applySums s).lnc.rateA = s.lnc.rateA ∧ (applySums s).lnc.rateB = s.lnc.rateB ∧
    (applySums s).lnc.rateS = s.lnc.rateS ∧ (applySums s).lnc.txGrant = s.lnc.txGrant ∧
    (applySums s).lnc.txReq1 = s.lnc.txReq1 ∧ (applySums s).lnc.txReq2 = s.lnc.txReq2 ∧
    (applySums s).lnc.txPose = s.lnc.txPose ∧ (applySums s).lnc.replies = s.lnc.replies ∧
    (applySums s).lnc.half = s.lnc.half ∧ (applySums s).lnc.lastNotice = s.lnc.lastNotice ∧
    (applySums s).lnc.pvcTimer = s.lnc.pvcTimer ∧ (applySums s).lnc.pvcSilent = s.lnc.pvcSilent ∧
    (applySums s).lnc.poseReport = s.lnc.poseReport ∧ (applySums s).lnc.latch = s.lnc.latch ∧
    (applySums s).lnc.commandCrc = s.lnc.commandCrc ∧ (applySums s).lnc.commandDropped = s.lnc.commandDropped := by
  simp [applySums]

/-- The calendar comparison (R168). -/
@[simp] theorem compareCalendar_frame (s : State) :
    (compareCalendar s).pending = s.pending ∧ (compareCalendar s).now = s.now ∧ (compareCalendar s).draws = s.draws ∧
    (compareCalendar s).power = s.power ∧ (compareCalendar s).clock = s.clock ∧ (compareCalendar s).store = s.store ∧
    (compareCalendar s).mdc.mode = s.mdc.mode ∧ (compareCalendar s).mdc.cause = s.mdc.cause ∧
    (compareCalendar s).mdc.keyState = s.mdc.keyState ∧ (compareCalendar s).mdc.lockout = s.mdc.lockout ∧
    (compareCalendar s).mdc.calStatus = s.mdc.calStatus ∧ (compareCalendar s).mdc.stSilence = s.mdc.stSilence ∧
    (compareCalendar s).mdc.resetPending = s.mdc.resetPending ∧ (compareCalendar s).mdc.resetWait = s.mdc.resetWait ∧
    (compareCalendar s).siu = s.siu ∧ (compareCalendar s).gmu = s.gmu ∧ (compareCalendar s).plu = s.plu ∧
    (compareCalendar s).evu = s.evu ∧ (compareCalendar s).eeu = s.eeu ∧
    (compareCalendar s).svu.loaded = s.svu.loaded ∧ (compareCalendar s).svu.metersLost = s.svu.metersLost ∧
    (compareCalendar s).svu.summary = s.svu.summary ∧ (compareCalendar s).svu.saveTimer = s.svu.saveTimer ∧
    (compareCalendar s).svu.reminderTimer = s.svu.reminderTimer ∧
    (compareCalendar s).svu.entrySaveBegun = s.svu.entrySaveBegun ∧ (compareCalendar s).rts.cal = s.rts.cal ∧
    (compareCalendar s).rts.inFlight = s.rts.inFlight ∧ (compareCalendar s).rts.failed = s.rts.failed ∧
    (compareCalendar s).rts.token = s.rts.token ∧ (compareCalendar s).lnc.ctlA = s.lnc.ctlA ∧
    (compareCalendar s).lnc.ctlB = s.lnc.ctlB ∧ (compareCalendar s).lnc.ctlS = s.lnc.ctlS ∧
    (compareCalendar s).lnc.rateA = s.lnc.rateA ∧ (compareCalendar s).lnc.rateB = s.lnc.rateB ∧
    (compareCalendar s).lnc.rateS = s.lnc.rateS ∧ (compareCalendar s).lnc.txGrant = s.lnc.txGrant ∧
    (compareCalendar s).lnc.txReq1 = s.lnc.txReq1 ∧ (compareCalendar s).lnc.txReq2 = s.lnc.txReq2 ∧
    (compareCalendar s).lnc.txPose = s.lnc.txPose ∧ (compareCalendar s).lnc.replies = s.lnc.replies ∧
    (compareCalendar s).lnc.half = s.lnc.half ∧ (compareCalendar s).lnc.lastNotice = s.lnc.lastNotice ∧
    (compareCalendar s).lnc.pvcTimer = s.lnc.pvcTimer ∧ (compareCalendar s).lnc.pvcSilent = s.lnc.pvcSilent ∧
    (compareCalendar s).lnc.poseReport = s.lnc.poseReport ∧ (compareCalendar s).lnc.latch = s.lnc.latch ∧
    (compareCalendar s).lnc.commandCrc = s.lnc.commandCrc ∧
    (compareCalendar s).lnc.commandDropped = s.lnc.commandDropped := by
  simp only [compareCalendar]
  (repeat' split) <;> simp

/-- The reminders (R172). -/
@[simp] theorem remind_frame (s : State) :
    (remind s).pending = s.pending ∧ (remind s).now = s.now ∧ (remind s).draws = s.draws ∧
    (remind s).power = s.power ∧ (remind s).clock = s.clock ∧ (remind s).store = s.store ∧ (remind s).mdc = s.mdc ∧
    (remind s).siu = s.siu ∧ (remind s).gmu = s.gmu ∧ (remind s).plu = s.plu ∧ (remind s).evu = s.evu ∧
    (remind s).eeu = s.eeu ∧ (remind s).svu = s.svu ∧ (remind s).rts = s.rts ∧ (remind s).lnc.ctlA = s.lnc.ctlA ∧
    (remind s).lnc.ctlB = s.lnc.ctlB ∧ (remind s).lnc.ctlS = s.lnc.ctlS ∧ (remind s).lnc.rateA = s.lnc.rateA ∧
    (remind s).lnc.rateB = s.lnc.rateB ∧ (remind s).lnc.rateS = s.lnc.rateS ∧ (remind s).lnc.txGrant = s.lnc.txGrant ∧
    (remind s).lnc.txReq1 = s.lnc.txReq1 ∧ (remind s).lnc.txReq2 = s.lnc.txReq2 ∧
    (remind s).lnc.txPose = s.lnc.txPose ∧ (remind s).lnc.replies = s.lnc.replies ∧ (remind s).lnc.half = s.lnc.half ∧
    (remind s).lnc.lastNotice = s.lnc.lastNotice ∧ (remind s).lnc.pvcTimer = s.lnc.pvcTimer ∧
    (remind s).lnc.pvcSilent = s.lnc.pvcSilent ∧ (remind s).lnc.poseReport = s.lnc.poseReport ∧
    (remind s).lnc.latch = s.lnc.latch ∧ (remind s).lnc.commandCrc = s.lnc.commandCrc ∧
    (remind s).lnc.commandDropped = s.lnc.commandDropped := by
  unfold remind
  generalize allItems = l
  induction l generalizing s with
  | nil => simp
  | cons k l ih =>
    simp only [List.foldl_cons, ih]
    (repeat' split) <;> simp

/-- A feed increment (R161). -/
@[simp] theorem feedIf_frame (c : Bool) (m : Meter) (n : Nat) (s : State) :
    (feedIf c m n s).pending = s.pending ∧ (feedIf c m n s).now = s.now ∧ (feedIf c m n s).draws = s.draws ∧
    (feedIf c m n s).power = s.power ∧ (feedIf c m n s).clock = s.clock ∧ (feedIf c m n s).store = s.store ∧
    (feedIf c m n s).mdc.mode = s.mdc.mode ∧ (feedIf c m n s).mdc.cause = s.mdc.cause ∧
    (feedIf c m n s).mdc.keyState = s.mdc.keyState ∧ (feedIf c m n s).mdc.lockout = s.mdc.lockout ∧
    (feedIf c m n s).mdc.calStatus = s.mdc.calStatus ∧ (feedIf c m n s).mdc.stSilence = s.mdc.stSilence ∧
    (feedIf c m n s).mdc.resetPending = s.mdc.resetPending ∧ (feedIf c m n s).mdc.resetWait = s.mdc.resetWait ∧
    (feedIf c m n s).siu = s.siu ∧ (feedIf c m n s).gmu = s.gmu ∧ (feedIf c m n s).plu = s.plu ∧
    (feedIf c m n s).evu = s.evu ∧ (feedIf c m n s).eeu = s.eeu ∧ (feedIf c m n s).svu.loaded = s.svu.loaded ∧
    (feedIf c m n s).svu.dayMark = s.svu.dayMark ∧ (feedIf c m n s).svu.metersLost = s.svu.metersLost ∧
    (feedIf c m n s).svu.summary = s.svu.summary ∧ (feedIf c m n s).svu.saveTimer = s.svu.saveTimer ∧
    (feedIf c m n s).svu.reminderTimer = s.svu.reminderTimer ∧
    (feedIf c m n s).svu.entrySaveBegun = s.svu.entrySaveBegun ∧ (feedIf c m n s).rts.cal = s.rts.cal ∧
    (feedIf c m n s).rts.inFlight = s.rts.inFlight ∧ (feedIf c m n s).rts.failed = s.rts.failed ∧
    (feedIf c m n s).rts.token = s.rts.token ∧ (feedIf c m n s).lnc.ctlA = s.lnc.ctlA ∧
    (feedIf c m n s).lnc.ctlB = s.lnc.ctlB ∧ (feedIf c m n s).lnc.ctlS = s.lnc.ctlS ∧
    (feedIf c m n s).lnc.rateA = s.lnc.rateA ∧ (feedIf c m n s).lnc.rateB = s.lnc.rateB ∧
    (feedIf c m n s).lnc.rateS = s.lnc.rateS ∧ (feedIf c m n s).lnc.txGrant = s.lnc.txGrant ∧
    (feedIf c m n s).lnc.txReq1 = s.lnc.txReq1 ∧ (feedIf c m n s).lnc.txReq2 = s.lnc.txReq2 ∧
    (feedIf c m n s).lnc.txPose = s.lnc.txPose ∧ (feedIf c m n s).lnc.replies = s.lnc.replies ∧
    (feedIf c m n s).lnc.half = s.lnc.half ∧ (feedIf c m n s).lnc.lastNotice = s.lnc.lastNotice ∧
    (feedIf c m n s).lnc.pvcTimer = s.lnc.pvcTimer ∧ (feedIf c m n s).lnc.pvcSilent = s.lnc.pvcSilent ∧
    (feedIf c m n s).lnc.poseReport = s.lnc.poseReport ∧ (feedIf c m n s).lnc.latch = s.lnc.latch ∧
    (feedIf c m n s).lnc.commandCrc = s.lnc.commandCrc ∧
    (feedIf c m n s).lnc.commandDropped = s.lnc.commandDropped := by
  simp only [feedIf]
  (repeat' split) <;> simp

/-- The fuel feed (R160). -/
@[simp] theorem feedFuel_frame (s : State) :
    (feedFuel s).pending = s.pending ∧ (feedFuel s).now = s.now ∧ (feedFuel s).draws = s.draws ∧
    (feedFuel s).power = s.power ∧ (feedFuel s).clock = s.clock ∧ (feedFuel s).store = s.store ∧
    (feedFuel s).mdc.mode = s.mdc.mode ∧ (feedFuel s).mdc.cause = s.mdc.cause ∧
    (feedFuel s).mdc.keyState = s.mdc.keyState ∧ (feedFuel s).mdc.lockout = s.mdc.lockout ∧
    (feedFuel s).mdc.calStatus = s.mdc.calStatus ∧ (feedFuel s).mdc.stSilence = s.mdc.stSilence ∧
    (feedFuel s).mdc.resetPending = s.mdc.resetPending ∧ (feedFuel s).mdc.resetWait = s.mdc.resetWait ∧
    (feedFuel s).siu = s.siu ∧ (feedFuel s).gmu = s.gmu ∧ (feedFuel s).plu = s.plu ∧
    (feedFuel s).evu.fences = s.evu.fences ∧ (feedFuel s).evu.dataLost = s.evu.dataLost ∧
    (feedFuel s).evu.levers = s.evu.levers ∧ (feedFuel s).evu.grant = s.evu.grant ∧
    (feedFuel s).evu.refresh = s.evu.refresh ∧ (feedFuel s).evu.outstanding = s.evu.outstanding ∧
    (feedFuel s).evu.unconfirmed = s.evu.unconfirmed ∧ (feedFuel s).eeu.slot1 = s.eeu.slot1 ∧
    (feedFuel s).eeu.slot2 = s.eeu.slot2 ∧ (feedFuel s).eeu.engineCount = s.eeu.engineCount ∧
    (feedFuel s).eeu.accumulator = s.eeu.accumulator ∧ (feedFuel s).eeu.average = s.eeu.average ∧
    (feedFuel s).eeu.joinHold = s.eeu.joinHold ∧ (feedFuel s).eeu.leaveHold = s.eeu.leaveHold ∧
    (feedFuel s).eeu.ladder = s.eeu.ladder ∧ (feedFuel s).eeu.autoIdle = s.eeu.autoIdle ∧
    (feedFuel s).eeu.lockoutTimer = s.eeu.lockoutTimer ∧ (feedFuel s).eeu.shutdownDelay = s.eeu.shutdownDelay ∧
    (feedFuel s).eeu.countdown = s.eeu.countdown ∧ (feedFuel s).eeu.idleHold = s.eeu.idleHold ∧
    (feedFuel s).eeu.pumpDemand = s.eeu.pumpDemand ∧ (feedFuel s).eeu.oilTemp = s.eeu.oilTemp ∧
    (feedFuel s).eeu.warmup = s.eeu.warmup ∧ (feedFuel s).eeu.effective = s.eeu.effective ∧
    (feedFuel s).eeu.limit = s.eeu.limit ∧ (feedFuel s).eeu.feedTimer = s.eeu.feedTimer ∧
    (feedFuel s).eeu.settings = s.eeu.settings ∧ (feedFuel s).svu.loaded = s.svu.loaded ∧
    (feedFuel s).svu.dayMark = s.svu.dayMark ∧ (feedFuel s).svu.metersLost = s.svu.metersLost ∧
    (feedFuel s).svu.saveTimer = s.svu.saveTimer ∧ (feedFuel s).svu.reminderTimer = s.svu.reminderTimer ∧
    (feedFuel s).svu.entrySaveBegun = s.svu.entrySaveBegun ∧ (feedFuel s).rts.cal = s.rts.cal ∧
    (feedFuel s).rts.inFlight = s.rts.inFlight ∧ (feedFuel s).rts.failed = s.rts.failed ∧
    (feedFuel s).rts.token = s.rts.token ∧ (feedFuel s).lnc.ctlA = s.lnc.ctlA ∧ (feedFuel s).lnc.ctlB = s.lnc.ctlB ∧
    (feedFuel s).lnc.ctlS = s.lnc.ctlS ∧ (feedFuel s).lnc.rateA = s.lnc.rateA ∧ (feedFuel s).lnc.rateB = s.lnc.rateB ∧
    (feedFuel s).lnc.rateS = s.lnc.rateS ∧ (feedFuel s).lnc.txGrant = s.lnc.txGrant ∧
    (feedFuel s).lnc.txReq1 = s.lnc.txReq1 ∧ (feedFuel s).lnc.txReq2 = s.lnc.txReq2 ∧
    (feedFuel s).lnc.txPose = s.lnc.txPose ∧ (feedFuel s).lnc.replies = s.lnc.replies ∧
    (feedFuel s).lnc.half = s.lnc.half ∧ (feedFuel s).lnc.lastNotice = s.lnc.lastNotice ∧
    (feedFuel s).lnc.pvcTimer = s.lnc.pvcTimer ∧ (feedFuel s).lnc.pvcSilent = s.lnc.pvcSilent ∧
    (feedFuel s).lnc.poseReport = s.lnc.poseReport ∧ (feedFuel s).lnc.latch = s.lnc.latch ∧
    (feedFuel s).lnc.commandCrc = s.lnc.commandCrc ∧ (feedFuel s).lnc.commandDropped = s.lnc.commandDropped := by
  simp only [feedFuel]
  (repeat' split) <;> simp

/-- The second feed (R161). -/
@[simp] theorem feedRuns_frame (s : State) :
    (feedRuns s).pending = s.pending ∧ (feedRuns s).now = s.now ∧ (feedRuns s).draws = s.draws ∧
    (feedRuns s).power = s.power ∧ (feedRuns s).clock = s.clock ∧ (feedRuns s).store = s.store ∧
    (feedRuns s).mdc.mode = s.mdc.mode ∧ (feedRuns s).mdc.cause = s.mdc.cause ∧
    (feedRuns s).mdc.keyState = s.mdc.keyState ∧ (feedRuns s).mdc.lockout = s.mdc.lockout ∧
    (feedRuns s).mdc.calStatus = s.mdc.calStatus ∧ (feedRuns s).mdc.stSilence = s.mdc.stSilence ∧
    (feedRuns s).mdc.resetPending = s.mdc.resetPending ∧ (feedRuns s).mdc.resetWait = s.mdc.resetWait ∧
    (feedRuns s).siu = s.siu ∧ (feedRuns s).gmu = s.gmu ∧ (feedRuns s).plu = s.plu ∧
    (feedRuns s).evu.fences = s.evu.fences ∧ (feedRuns s).evu.dataLost = s.evu.dataLost ∧
    (feedRuns s).evu.levers = s.evu.levers ∧ (feedRuns s).evu.grant = s.evu.grant ∧
    (feedRuns s).evu.refresh = s.evu.refresh ∧ (feedRuns s).evu.outstanding = s.evu.outstanding ∧
    (feedRuns s).evu.unconfirmed = s.evu.unconfirmed ∧ (feedRuns s).eeu.slot1 = s.eeu.slot1 ∧
    (feedRuns s).eeu.slot2 = s.eeu.slot2 ∧ (feedRuns s).eeu.engineCount = s.eeu.engineCount ∧
    (feedRuns s).eeu.accumulator = s.eeu.accumulator ∧ (feedRuns s).eeu.average = s.eeu.average ∧
    (feedRuns s).eeu.joinHold = s.eeu.joinHold ∧ (feedRuns s).eeu.leaveHold = s.eeu.leaveHold ∧
    (feedRuns s).eeu.ladder = s.eeu.ladder ∧ (feedRuns s).eeu.autoIdle = s.eeu.autoIdle ∧
    (feedRuns s).eeu.lockoutTimer = s.eeu.lockoutTimer ∧ (feedRuns s).eeu.shutdownDelay = s.eeu.shutdownDelay ∧
    (feedRuns s).eeu.countdown = s.eeu.countdown ∧ (feedRuns s).eeu.idleHold = s.eeu.idleHold ∧
    (feedRuns s).eeu.pumpDemand = s.eeu.pumpDemand ∧ (feedRuns s).eeu.oilTemp = s.eeu.oilTemp ∧
    (feedRuns s).eeu.warmup = s.eeu.warmup ∧ (feedRuns s).eeu.effective = s.eeu.effective ∧
    (feedRuns s).eeu.limit = s.eeu.limit ∧ (feedRuns s).eeu.fuelRem = s.eeu.fuelRem ∧
    (feedRuns s).eeu.fuelTimer = s.eeu.fuelTimer ∧ (feedRuns s).eeu.settings = s.eeu.settings ∧
    (feedRuns s).svu.loaded = s.svu.loaded ∧ (feedRuns s).svu.dayMark = s.svu.dayMark ∧
    (feedRuns s).svu.metersLost = s.svu.metersLost ∧ (feedRuns s).svu.saveTimer = s.svu.saveTimer ∧
    (feedRuns s).svu.reminderTimer = s.svu.reminderTimer ∧ (feedRuns s).svu.entrySaveBegun = s.svu.entrySaveBegun ∧
    (feedRuns s).rts.cal = s.rts.cal ∧ (feedRuns s).rts.inFlight = s.rts.inFlight ∧
    (feedRuns s).rts.failed = s.rts.failed ∧ (feedRuns s).rts.token = s.rts.token ∧
    (feedRuns s).lnc.ctlA = s.lnc.ctlA ∧ (feedRuns s).lnc.ctlB = s.lnc.ctlB ∧ (feedRuns s).lnc.ctlS = s.lnc.ctlS ∧
    (feedRuns s).lnc.rateA = s.lnc.rateA ∧ (feedRuns s).lnc.rateB = s.lnc.rateB ∧
    (feedRuns s).lnc.rateS = s.lnc.rateS ∧ (feedRuns s).lnc.txGrant = s.lnc.txGrant ∧
    (feedRuns s).lnc.txReq1 = s.lnc.txReq1 ∧ (feedRuns s).lnc.txReq2 = s.lnc.txReq2 ∧
    (feedRuns s).lnc.txPose = s.lnc.txPose ∧ (feedRuns s).lnc.replies = s.lnc.replies ∧
    (feedRuns s).lnc.half = s.lnc.half ∧ (feedRuns s).lnc.lastNotice = s.lnc.lastNotice ∧
    (feedRuns s).lnc.pvcTimer = s.lnc.pvcTimer ∧ (feedRuns s).lnc.pvcSilent = s.lnc.pvcSilent ∧
    (feedRuns s).lnc.poseReport = s.lnc.poseReport ∧ (feedRuns s).lnc.latch = s.lnc.latch ∧
    (feedRuns s).lnc.commandCrc = s.lnc.commandCrc ∧ (feedRuns s).lnc.commandDropped = s.lnc.commandDropped := by
  simp [feedRuns]

/-- A monitor replaced. -/
@[simp] theorem setMonitor_frame (f : HydFn) (m : Monitor) (s : State) :
    (setMonitor f m s).pending = s.pending ∧ (setMonitor f m s).now = s.now ∧ (setMonitor f m s).draws = s.draws ∧
    (setMonitor f m s).power = s.power ∧ (setMonitor f m s).clock = s.clock ∧ (setMonitor f m s).store = s.store ∧
    (setMonitor f m s).mdc = s.mdc ∧ (setMonitor f m s).siu = s.siu ∧ (setMonitor f m s).gmu = s.gmu ∧
    (setMonitor f m s).plu = s.plu ∧ (setMonitor f m s).evu.fences = s.evu.fences ∧
    (setMonitor f m s).evu.dataLost = s.evu.dataLost ∧ (setMonitor f m s).evu.caps = s.evu.caps ∧
    (setMonitor f m s).evu.levers = s.evu.levers ∧ (setMonitor f m s).evu.grant = s.evu.grant ∧
    (setMonitor f m s).evu.refresh = s.evu.refresh ∧ (setMonitor f m s).evu.outstanding = s.evu.outstanding ∧
    (setMonitor f m s).evu.unconfirmed = s.evu.unconfirmed ∧ (setMonitor f m s).eeu = s.eeu ∧
    (setMonitor f m s).svu = s.svu ∧ (setMonitor f m s).rts = s.rts ∧ (setMonitor f m s).lnc = s.lnc := by
  simp [setMonitor]

/-- A violation counted (R126). -/
@[simp] theorem violation_frame (f : HydFn) (s : State) :
    (violation f s).pending = s.pending ∧ (violation f s).now = s.now ∧ (violation f s).draws = s.draws ∧
    (violation f s).power = s.power ∧ (violation f s).clock = s.clock ∧ (violation f s).store = s.store ∧
    (violation f s).mdc.mode = s.mdc.mode ∧ (violation f s).mdc.cause = s.mdc.cause ∧
    (violation f s).mdc.keyState = s.mdc.keyState ∧ (violation f s).mdc.lockout = s.mdc.lockout ∧
    (violation f s).mdc.calStatus = s.mdc.calStatus ∧ (violation f s).mdc.stSilence = s.mdc.stSilence ∧
    (violation f s).mdc.resetPending = s.mdc.resetPending ∧ (violation f s).mdc.resetWait = s.mdc.resetWait ∧
    (violation f s).siu = s.siu ∧ (violation f s).gmu = s.gmu ∧ (violation f s).plu = s.plu ∧
    (violation f s).evu.fences = s.evu.fences ∧ (violation f s).evu.dataLost = s.evu.dataLost ∧
    (violation f s).evu.levers = s.evu.levers ∧ (violation f s).evu.grant = s.evu.grant ∧
    (violation f s).evu.refresh = s.evu.refresh ∧ (violation f s).evu.outstanding = s.evu.outstanding ∧
    (violation f s).evu.unconfirmed = s.evu.unconfirmed ∧ (violation f s).eeu = s.eeu ∧
    (violation f s).svu.loaded = s.svu.loaded ∧ (violation f s).svu.dayMark = s.svu.dayMark ∧
    (violation f s).svu.metersLost = s.svu.metersLost ∧ (violation f s).svu.saveTimer = s.svu.saveTimer ∧
    (violation f s).svu.reminderTimer = s.svu.reminderTimer ∧
    (violation f s).svu.entrySaveBegun = s.svu.entrySaveBegun ∧ (violation f s).rts.cal = s.rts.cal ∧
    (violation f s).rts.inFlight = s.rts.inFlight ∧ (violation f s).rts.failed = s.rts.failed ∧
    (violation f s).rts.token = s.rts.token ∧ (violation f s).lnc.ctlA = s.lnc.ctlA ∧
    (violation f s).lnc.ctlB = s.lnc.ctlB ∧ (violation f s).lnc.ctlS = s.lnc.ctlS ∧
    (violation f s).lnc.rateA = s.lnc.rateA ∧ (violation f s).lnc.rateB = s.lnc.rateB ∧
    (violation f s).lnc.rateS = s.lnc.rateS ∧ (violation f s).lnc.txGrant = s.lnc.txGrant ∧
    (violation f s).lnc.txReq1 = s.lnc.txReq1 ∧ (violation f s).lnc.txReq2 = s.lnc.txReq2 ∧
    (violation f s).lnc.txPose = s.lnc.txPose ∧ (violation f s).lnc.replies = s.lnc.replies ∧
    (violation f s).lnc.half = s.lnc.half ∧ (violation f s).lnc.lastNotice = s.lnc.lastNotice ∧
    (violation f s).lnc.pvcTimer = s.lnc.pvcTimer ∧ (violation f s).lnc.pvcSilent = s.lnc.pvcSilent ∧
    (violation f s).lnc.poseReport = s.lnc.poseReport ∧ (violation f s).lnc.latch = s.lnc.latch ∧
    (violation f s).lnc.commandCrc = s.lnc.commandCrc ∧
    (violation f s).lnc.commandDropped = s.lnc.commandDropped := by
  simp [violation]

/-- A response recorded (R123). -/
@[simp] theorem respond_frame (f : HydFn) (ms : Nat) (s : State) :
    (respond f ms s).pending = s.pending ∧ (respond f ms s).now = s.now ∧ (respond f ms s).draws = s.draws ∧
    (respond f ms s).power = s.power ∧ (respond f ms s).clock = s.clock ∧ (respond f ms s).store = s.store ∧
    (respond f ms s).mdc.mode = s.mdc.mode ∧ (respond f ms s).mdc.cause = s.mdc.cause ∧
    (respond f ms s).mdc.keyState = s.mdc.keyState ∧ (respond f ms s).mdc.lockout = s.mdc.lockout ∧
    (respond f ms s).mdc.calStatus = s.mdc.calStatus ∧ (respond f ms s).mdc.stSilence = s.mdc.stSilence ∧
    (respond f ms s).mdc.resetPending = s.mdc.resetPending ∧ (respond f ms s).mdc.resetWait = s.mdc.resetWait ∧
    (respond f ms s).siu = s.siu ∧ (respond f ms s).gmu = s.gmu ∧ (respond f ms s).plu = s.plu ∧
    (respond f ms s).evu.fences = s.evu.fences ∧ (respond f ms s).evu.dataLost = s.evu.dataLost ∧
    (respond f ms s).evu.levers = s.evu.levers ∧ (respond f ms s).evu.grant = s.evu.grant ∧
    (respond f ms s).evu.refresh = s.evu.refresh ∧ (respond f ms s).evu.outstanding = s.evu.outstanding ∧
    (respond f ms s).evu.unconfirmed = s.evu.unconfirmed ∧ (respond f ms s).eeu = s.eeu ∧
    (respond f ms s).svu.loaded = s.svu.loaded ∧ (respond f ms s).svu.dayMark = s.svu.dayMark ∧
    (respond f ms s).svu.metersLost = s.svu.metersLost ∧ (respond f ms s).svu.saveTimer = s.svu.saveTimer ∧
    (respond f ms s).svu.reminderTimer = s.svu.reminderTimer ∧
    (respond f ms s).svu.entrySaveBegun = s.svu.entrySaveBegun ∧ (respond f ms s).rts.cal = s.rts.cal ∧
    (respond f ms s).rts.inFlight = s.rts.inFlight ∧ (respond f ms s).rts.failed = s.rts.failed ∧
    (respond f ms s).rts.token = s.rts.token ∧ (respond f ms s).lnc.ctlA = s.lnc.ctlA ∧
    (respond f ms s).lnc.ctlB = s.lnc.ctlB ∧ (respond f ms s).lnc.ctlS = s.lnc.ctlS ∧
    (respond f ms s).lnc.rateA = s.lnc.rateA ∧ (respond f ms s).lnc.rateB = s.lnc.rateB ∧
    (respond f ms s).lnc.rateS = s.lnc.rateS ∧ (respond f ms s).lnc.txGrant = s.lnc.txGrant ∧
    (respond f ms s).lnc.txReq1 = s.lnc.txReq1 ∧ (respond f ms s).lnc.txReq2 = s.lnc.txReq2 ∧
    (respond f ms s).lnc.txPose = s.lnc.txPose ∧ (respond f ms s).lnc.replies = s.lnc.replies ∧
    (respond f ms s).lnc.half = s.lnc.half ∧ (respond f ms s).lnc.lastNotice = s.lnc.lastNotice ∧
    (respond f ms s).lnc.pvcTimer = s.lnc.pvcTimer ∧ (respond f ms s).lnc.pvcSilent = s.lnc.pvcSilent ∧
    (respond f ms s).lnc.poseReport = s.lnc.poseReport ∧ (respond f ms s).lnc.latch = s.lnc.latch ∧
    (respond f ms s).lnc.commandCrc = s.lnc.commandCrc ∧
    (respond f ms s).lnc.commandDropped = s.lnc.commandDropped := by
  simp only [respond]
  (repeat' split) <;> simp

/-- A compliance test (R123). -/
@[simp] theorem testMonitor_frame (b : PerFn Monitor) (f : HydFn) (s : State) :
    (testMonitor b s f).pending = s.pending ∧ (testMonitor b s f).now = s.now ∧ (testMonitor b s f).draws = s.draws ∧
    (testMonitor b s f).power = s.power ∧ (testMonitor b s f).clock = s.clock ∧ (testMonitor b s f).store = s.store ∧
    (testMonitor b s f).mdc.mode = s.mdc.mode ∧ (testMonitor b s f).mdc.cause = s.mdc.cause ∧
    (testMonitor b s f).mdc.keyState = s.mdc.keyState ∧ (testMonitor b s f).mdc.lockout = s.mdc.lockout ∧
    (testMonitor b s f).mdc.calStatus = s.mdc.calStatus ∧ (testMonitor b s f).mdc.stSilence = s.mdc.stSilence ∧
    (testMonitor b s f).mdc.resetPending = s.mdc.resetPending ∧ (testMonitor b s f).mdc.resetWait = s.mdc.resetWait ∧
    (testMonitor b s f).siu = s.siu ∧ (testMonitor b s f).gmu = s.gmu ∧ (testMonitor b s f).plu = s.plu ∧
    (testMonitor b s f).evu.fences = s.evu.fences ∧ (testMonitor b s f).evu.dataLost = s.evu.dataLost ∧
    (testMonitor b s f).evu.levers = s.evu.levers ∧ (testMonitor b s f).evu.grant = s.evu.grant ∧
    (testMonitor b s f).evu.refresh = s.evu.refresh ∧ (testMonitor b s f).evu.outstanding = s.evu.outstanding ∧
    (testMonitor b s f).evu.unconfirmed = s.evu.unconfirmed ∧ (testMonitor b s f).eeu = s.eeu ∧
    (testMonitor b s f).svu.loaded = s.svu.loaded ∧ (testMonitor b s f).svu.dayMark = s.svu.dayMark ∧
    (testMonitor b s f).svu.metersLost = s.svu.metersLost ∧ (testMonitor b s f).svu.saveTimer = s.svu.saveTimer ∧
    (testMonitor b s f).svu.reminderTimer = s.svu.reminderTimer ∧
    (testMonitor b s f).svu.entrySaveBegun = s.svu.entrySaveBegun ∧ (testMonitor b s f).rts.cal = s.rts.cal ∧
    (testMonitor b s f).rts.inFlight = s.rts.inFlight ∧ (testMonitor b s f).rts.failed = s.rts.failed ∧
    (testMonitor b s f).rts.token = s.rts.token ∧ (testMonitor b s f).lnc.ctlA = s.lnc.ctlA ∧
    (testMonitor b s f).lnc.ctlB = s.lnc.ctlB ∧ (testMonitor b s f).lnc.ctlS = s.lnc.ctlS ∧
    (testMonitor b s f).lnc.rateA = s.lnc.rateA ∧ (testMonitor b s f).lnc.rateB = s.lnc.rateB ∧
    (testMonitor b s f).lnc.rateS = s.lnc.rateS ∧ (testMonitor b s f).lnc.txGrant = s.lnc.txGrant ∧
    (testMonitor b s f).lnc.txReq1 = s.lnc.txReq1 ∧ (testMonitor b s f).lnc.txReq2 = s.lnc.txReq2 ∧
    (testMonitor b s f).lnc.txPose = s.lnc.txPose ∧ (testMonitor b s f).lnc.replies = s.lnc.replies ∧
    (testMonitor b s f).lnc.half = s.lnc.half ∧ (testMonitor b s f).lnc.lastNotice = s.lnc.lastNotice ∧
    (testMonitor b s f).lnc.pvcTimer = s.lnc.pvcTimer ∧ (testMonitor b s f).lnc.pvcSilent = s.lnc.pvcSilent ∧
    (testMonitor b s f).lnc.poseReport = s.lnc.poseReport ∧ (testMonitor b s f).lnc.latch = s.lnc.latch ∧
    (testMonitor b s f).lnc.commandCrc = s.lnc.commandCrc ∧
    (testMonitor b s f).lnc.commandDropped = s.lnc.commandDropped := by
  simp only [testMonitor]
  (repeat' split) <;> simp

/-- The compliance tests of several functions (R123). -/
@[simp] theorem testMonitors_frame (b : PerFn Monitor) (l : List HydFn) (s : State) :
    (l.foldl (testMonitor b) s).pending = s.pending ∧ (l.foldl (testMonitor b) s).now = s.now ∧
    (l.foldl (testMonitor b) s).draws = s.draws ∧ (l.foldl (testMonitor b) s).power = s.power ∧
    (l.foldl (testMonitor b) s).clock = s.clock ∧ (l.foldl (testMonitor b) s).store = s.store ∧
    (l.foldl (testMonitor b) s).mdc.mode = s.mdc.mode ∧ (l.foldl (testMonitor b) s).mdc.cause = s.mdc.cause ∧
    (l.foldl (testMonitor b) s).mdc.keyState = s.mdc.keyState ∧
    (l.foldl (testMonitor b) s).mdc.lockout = s.mdc.lockout ∧
    (l.foldl (testMonitor b) s).mdc.calStatus = s.mdc.calStatus ∧
    (l.foldl (testMonitor b) s).mdc.stSilence = s.mdc.stSilence ∧
    (l.foldl (testMonitor b) s).mdc.resetPending = s.mdc.resetPending ∧
    (l.foldl (testMonitor b) s).mdc.resetWait = s.mdc.resetWait ∧ (l.foldl (testMonitor b) s).siu = s.siu ∧
    (l.foldl (testMonitor b) s).gmu = s.gmu ∧ (l.foldl (testMonitor b) s).plu = s.plu ∧
    (l.foldl (testMonitor b) s).evu.fences = s.evu.fences ∧
    (l.foldl (testMonitor b) s).evu.dataLost = s.evu.dataLost ∧
    (l.foldl (testMonitor b) s).evu.levers = s.evu.levers ∧ (l.foldl (testMonitor b) s).evu.grant = s.evu.grant ∧
    (l.foldl (testMonitor b) s).evu.refresh = s.evu.refresh ∧
    (l.foldl (testMonitor b) s).evu.outstanding = s.evu.outstanding ∧
    (l.foldl (testMonitor b) s).evu.unconfirmed = s.evu.unconfirmed ∧ (l.foldl (testMonitor b) s).eeu = s.eeu ∧
    (l.foldl (testMonitor b) s).svu.loaded = s.svu.loaded ∧ (l.foldl (testMonitor b) s).svu.dayMark = s.svu.dayMark ∧
    (l.foldl (testMonitor b) s).svu.metersLost = s.svu.metersLost ∧
    (l.foldl (testMonitor b) s).svu.saveTimer = s.svu.saveTimer ∧
    (l.foldl (testMonitor b) s).svu.reminderTimer = s.svu.reminderTimer ∧
    (l.foldl (testMonitor b) s).svu.entrySaveBegun = s.svu.entrySaveBegun ∧
    (l.foldl (testMonitor b) s).rts.cal = s.rts.cal ∧ (l.foldl (testMonitor b) s).rts.inFlight = s.rts.inFlight ∧
    (l.foldl (testMonitor b) s).rts.failed = s.rts.failed ∧ (l.foldl (testMonitor b) s).rts.token = s.rts.token ∧
    (l.foldl (testMonitor b) s).lnc.ctlA = s.lnc.ctlA ∧ (l.foldl (testMonitor b) s).lnc.ctlB = s.lnc.ctlB ∧
    (l.foldl (testMonitor b) s).lnc.ctlS = s.lnc.ctlS ∧ (l.foldl (testMonitor b) s).lnc.rateA = s.lnc.rateA ∧
    (l.foldl (testMonitor b) s).lnc.rateB = s.lnc.rateB ∧ (l.foldl (testMonitor b) s).lnc.rateS = s.lnc.rateS ∧
    (l.foldl (testMonitor b) s).lnc.txGrant = s.lnc.txGrant ∧ (l.foldl (testMonitor b) s).lnc.txReq1 = s.lnc.txReq1 ∧
    (l.foldl (testMonitor b) s).lnc.txReq2 = s.lnc.txReq2 ∧ (l.foldl (testMonitor b) s).lnc.txPose = s.lnc.txPose ∧
    (l.foldl (testMonitor b) s).lnc.replies = s.lnc.replies ∧ (l.foldl (testMonitor b) s).lnc.half = s.lnc.half ∧
    (l.foldl (testMonitor b) s).lnc.lastNotice = s.lnc.lastNotice ∧
    (l.foldl (testMonitor b) s).lnc.pvcTimer = s.lnc.pvcTimer ∧
    (l.foldl (testMonitor b) s).lnc.pvcSilent = s.lnc.pvcSilent ∧
    (l.foldl (testMonitor b) s).lnc.poseReport = s.lnc.poseReport ∧
    (l.foldl (testMonitor b) s).lnc.latch = s.lnc.latch ∧
    (l.foldl (testMonitor b) s).lnc.commandCrc = s.lnc.commandCrc ∧
    (l.foldl (testMonitor b) s).lnc.commandDropped = s.lnc.commandDropped := by
  induction l generalizing s with
  | nil => simp
  | cons k l ih => simp only [List.foldl_cons, ih]; simp

/-- The EVU at a pose (R112). -/
@[simp] theorem capsPose_frame (s : State) :
    (capsPose s).pending = s.pending ∧ (capsPose s).now = s.now ∧ (capsPose s).draws = s.draws ∧
    (capsPose s).power = s.power ∧ (capsPose s).clock = s.clock ∧ (capsPose s).store = s.store ∧
    (capsPose s).mdc.mode = s.mdc.mode ∧ (capsPose s).mdc.cause = s.mdc.cause ∧
    (capsPose s).mdc.keyState = s.mdc.keyState ∧ (capsPose s).mdc.lockout = s.mdc.lockout ∧
    (capsPose s).mdc.calStatus = s.mdc.calStatus ∧ (capsPose s).mdc.stSilence = s.mdc.stSilence ∧
    (capsPose s).mdc.resetPending = s.mdc.resetPending ∧ (capsPose s).mdc.resetWait = s.mdc.resetWait ∧
    (capsPose s).siu = s.siu ∧ (capsPose s).gmu = s.gmu ∧ (capsPose s).plu = s.plu ∧
    (capsPose s).evu.fences = s.evu.fences ∧ (capsPose s).evu.dataLost = s.evu.dataLost ∧
    (capsPose s).evu.levers = s.evu.levers ∧ (capsPose s).evu.grant = s.evu.grant ∧
    (capsPose s).evu.refresh = s.evu.refresh ∧ (capsPose s).evu.outstanding = s.evu.outstanding ∧
    (capsPose s).evu.unconfirmed = s.evu.unconfirmed ∧ (capsPose s).eeu = s.eeu ∧
    (capsPose s).svu.loaded = s.svu.loaded ∧ (capsPose s).svu.dayMark = s.svu.dayMark ∧
    (capsPose s).svu.metersLost = s.svu.metersLost ∧ (capsPose s).svu.saveTimer = s.svu.saveTimer ∧
    (capsPose s).svu.reminderTimer = s.svu.reminderTimer ∧ (capsPose s).svu.entrySaveBegun = s.svu.entrySaveBegun ∧
    (capsPose s).rts.cal = s.rts.cal ∧ (capsPose s).rts.inFlight = s.rts.inFlight ∧
    (capsPose s).rts.failed = s.rts.failed ∧ (capsPose s).rts.token = s.rts.token ∧
    (capsPose s).lnc.ctlA = s.lnc.ctlA ∧ (capsPose s).lnc.ctlB = s.lnc.ctlB ∧ (capsPose s).lnc.ctlS = s.lnc.ctlS ∧
    (capsPose s).lnc.rateA = s.lnc.rateA ∧ (capsPose s).lnc.rateB = s.lnc.rateB ∧
    (capsPose s).lnc.rateS = s.lnc.rateS ∧ (capsPose s).lnc.txGrant = s.lnc.txGrant ∧
    (capsPose s).lnc.txReq1 = s.lnc.txReq1 ∧ (capsPose s).lnc.txReq2 = s.lnc.txReq2 ∧
    (capsPose s).lnc.txPose = s.lnc.txPose ∧ (capsPose s).lnc.replies = s.lnc.replies ∧
    (capsPose s).lnc.half = s.lnc.half ∧ (capsPose s).lnc.lastNotice = s.lnc.lastNotice ∧
    (capsPose s).lnc.pvcTimer = s.lnc.pvcTimer ∧ (capsPose s).lnc.pvcSilent = s.lnc.pvcSilent ∧
    (capsPose s).lnc.poseReport = s.lnc.poseReport ∧ (capsPose s).lnc.latch = s.lnc.latch ∧
    (capsPose s).lnc.commandCrc = s.lnc.commandCrc ∧ (capsPose s).lnc.commandDropped = s.lnc.commandDropped := by
  simp only [capsPose]
  (repeat' split) <;> simp

/-- A hold set (R125). -/
@[simp] theorem holdFunction_frame (f : HydFn) (s : State) :
    (holdFunction f s).pending = s.pending ∧ (holdFunction f s).now = s.now ∧ (holdFunction f s).draws = s.draws ∧
    (holdFunction f s).power = s.power ∧ (holdFunction f s).clock = s.clock ∧ (holdFunction f s).store = s.store ∧
    (holdFunction f s).mdc = s.mdc ∧ (holdFunction f s).siu = s.siu ∧ (holdFunction f s).gmu = s.gmu ∧
    (holdFunction f s).plu = s.plu ∧ (holdFunction f s).evu.fences = s.evu.fences ∧
    (holdFunction f s).evu.dataLost = s.evu.dataLost ∧ (holdFunction f s).evu.levers = s.evu.levers ∧
    (holdFunction f s).evu.grant = s.evu.grant ∧ (holdFunction f s).evu.refresh = s.evu.refresh ∧
    (holdFunction f s).evu.outstanding = s.evu.outstanding ∧ (holdFunction f s).evu.unconfirmed = s.evu.unconfirmed ∧
    (holdFunction f s).eeu = s.eeu ∧ (holdFunction f s).svu = s.svu ∧ (holdFunction f s).rts = s.rts ∧
    (holdFunction f s).lnc = s.lnc := by
  simp [holdFunction]

/-- A failed response (R125). -/
@[simp] theorem failResponse_frame (f : HydFn) (s : State) :
    (failResponse f s).pending = s.pending ∧ (failResponse f s).now = s.now ∧ (failResponse f s).draws = s.draws ∧
    (failResponse f s).power = s.power ∧ (failResponse f s).clock = s.clock ∧ (failResponse f s).store = s.store ∧
    (failResponse f s).mdc.mode = s.mdc.mode ∧ (failResponse f s).mdc.cause = s.mdc.cause ∧
    (failResponse f s).mdc.keyState = s.mdc.keyState ∧ (failResponse f s).mdc.lockout = s.mdc.lockout ∧
    (failResponse f s).mdc.calStatus = s.mdc.calStatus ∧ (failResponse f s).mdc.stSilence = s.mdc.stSilence ∧
    (failResponse f s).mdc.resetPending = s.mdc.resetPending ∧ (failResponse f s).mdc.resetWait = s.mdc.resetWait ∧
    (failResponse f s).siu = s.siu ∧ (failResponse f s).gmu = s.gmu ∧ (failResponse f s).plu = s.plu ∧
    (failResponse f s).evu.fences = s.evu.fences ∧ (failResponse f s).evu.dataLost = s.evu.dataLost ∧
    (failResponse f s).evu.levers = s.evu.levers ∧ (failResponse f s).evu.grant = s.evu.grant ∧
    (failResponse f s).evu.refresh = s.evu.refresh ∧ (failResponse f s).evu.outstanding = s.evu.outstanding ∧
    (failResponse f s).evu.unconfirmed = s.evu.unconfirmed ∧ (failResponse f s).eeu = s.eeu ∧
    (failResponse f s).svu.loaded = s.svu.loaded ∧ (failResponse f s).svu.dayMark = s.svu.dayMark ∧
    (failResponse f s).svu.metersLost = s.svu.metersLost ∧ (failResponse f s).svu.saveTimer = s.svu.saveTimer ∧
    (failResponse f s).svu.reminderTimer = s.svu.reminderTimer ∧
    (failResponse f s).svu.entrySaveBegun = s.svu.entrySaveBegun ∧ (failResponse f s).rts.cal = s.rts.cal ∧
    (failResponse f s).rts.inFlight = s.rts.inFlight ∧ (failResponse f s).rts.failed = s.rts.failed ∧
    (failResponse f s).rts.token = s.rts.token ∧ (failResponse f s).lnc.ctlA = s.lnc.ctlA ∧
    (failResponse f s).lnc.ctlB = s.lnc.ctlB ∧ (failResponse f s).lnc.ctlS = s.lnc.ctlS ∧
    (failResponse f s).lnc.rateA = s.lnc.rateA ∧ (failResponse f s).lnc.rateB = s.lnc.rateB ∧
    (failResponse f s).lnc.rateS = s.lnc.rateS ∧ (failResponse f s).lnc.txGrant = s.lnc.txGrant ∧
    (failResponse f s).lnc.txReq1 = s.lnc.txReq1 ∧ (failResponse f s).lnc.txReq2 = s.lnc.txReq2 ∧
    (failResponse f s).lnc.txPose = s.lnc.txPose ∧ (failResponse f s).lnc.replies = s.lnc.replies ∧
    (failResponse f s).lnc.half = s.lnc.half ∧ (failResponse f s).lnc.lastNotice = s.lnc.lastNotice ∧
    (failResponse f s).lnc.pvcTimer = s.lnc.pvcTimer ∧ (failResponse f s).lnc.pvcSilent = s.lnc.pvcSilent ∧
    (failResponse f s).lnc.poseReport = s.lnc.poseReport ∧ (failResponse f s).lnc.latch = s.lnc.latch ∧
    (failResponse f s).lnc.commandCrc = s.lnc.commandCrc ∧
    (failResponse f s).lnc.commandDropped = s.lnc.commandDropped := by
  simp [failResponse]

/-- POSE_VALIDITY (R48). -/
@[simp] theorem notifyPart_frame (n : Nat) (a : Part) (b : Part) (s : State) :
    (notifyPart n a b s).pending = s.pending ∧ (notifyPart n a b s).now = s.now ∧
    (notifyPart n a b s).draws = s.draws ∧ (notifyPart n a b s).power = s.power ∧
    (notifyPart n a b s).clock = s.clock ∧ (notifyPart n a b s).store = s.store ∧ (notifyPart n a b s).mdc = s.mdc ∧
    (notifyPart n a b s).siu = s.siu ∧ (notifyPart n a b s).gmu = s.gmu ∧ (notifyPart n a b s).plu = s.plu ∧
    (notifyPart n a b s).evu = s.evu ∧ (notifyPart n a b s).eeu = s.eeu ∧ (notifyPart n a b s).svu = s.svu ∧
    (notifyPart n a b s).rts = s.rts ∧ (notifyPart n a b s).lnc.ctlA = s.lnc.ctlA ∧
    (notifyPart n a b s).lnc.ctlB = s.lnc.ctlB ∧ (notifyPart n a b s).lnc.ctlS = s.lnc.ctlS ∧
    (notifyPart n a b s).lnc.rateA = s.lnc.rateA ∧ (notifyPart n a b s).lnc.rateB = s.lnc.rateB ∧
    (notifyPart n a b s).lnc.rateS = s.lnc.rateS ∧ (notifyPart n a b s).lnc.txGrant = s.lnc.txGrant ∧
    (notifyPart n a b s).lnc.txReq1 = s.lnc.txReq1 ∧ (notifyPart n a b s).lnc.txReq2 = s.lnc.txReq2 ∧
    (notifyPart n a b s).lnc.txPose = s.lnc.txPose ∧ (notifyPart n a b s).lnc.replies = s.lnc.replies ∧
    (notifyPart n a b s).lnc.half = s.lnc.half ∧ (notifyPart n a b s).lnc.lastNotice = s.lnc.lastNotice ∧
    (notifyPart n a b s).lnc.pvcTimer = s.lnc.pvcTimer ∧ (notifyPart n a b s).lnc.pvcSilent = s.lnc.pvcSilent ∧
    (notifyPart n a b s).lnc.poseReport = s.lnc.poseReport ∧ (notifyPart n a b s).lnc.latch = s.lnc.latch ∧
    (notifyPart n a b s).lnc.commandCrc = s.lnc.commandCrc ∧
    (notifyPart n a b s).lnc.commandDropped = s.lnc.commandDropped := by
  simp only [notifyPart]
  (repeat' split) <;> simp

/-- A pose published (R48, R49, R51). -/
@[simp] theorem publishPose_frame (s : State) :
    (publishPose s).pending = s.pending ∧ (publishPose s).now = s.now ∧ (publishPose s).draws = s.draws ∧
    (publishPose s).power = s.power ∧ (publishPose s).clock = s.clock ∧ (publishPose s).store = s.store ∧
    (publishPose s).mdc = s.mdc ∧ (publishPose s).siu = s.siu ∧ (publishPose s).gmu.grade = s.gmu.grade ∧
    (publishPose s).plu = s.plu ∧ (publishPose s).evu = s.evu ∧ (publishPose s).eeu = s.eeu ∧
    (publishPose s).svu = s.svu ∧ (publishPose s).rts = s.rts ∧ (publishPose s).lnc.ctlA = s.lnc.ctlA ∧
    (publishPose s).lnc.ctlB = s.lnc.ctlB ∧ (publishPose s).lnc.ctlS = s.lnc.ctlS ∧
    (publishPose s).lnc.rateA = s.lnc.rateA ∧ (publishPose s).lnc.rateB = s.lnc.rateB ∧
    (publishPose s).lnc.rateS = s.lnc.rateS ∧ (publishPose s).lnc.txGrant = s.lnc.txGrant ∧
    (publishPose s).lnc.txReq1 = s.lnc.txReq1 ∧ (publishPose s).lnc.txReq2 = s.lnc.txReq2 ∧
    (publishPose s).lnc.txPose = s.lnc.txPose ∧ (publishPose s).lnc.replies = s.lnc.replies ∧
    (publishPose s).lnc.half = s.lnc.half ∧ (publishPose s).lnc.lastNotice = s.lnc.lastNotice ∧
    (publishPose s).lnc.pvcTimer = s.lnc.pvcTimer ∧ (publishPose s).lnc.pvcSilent = s.lnc.pvcSilent ∧
    (publishPose s).lnc.poseReport = s.lnc.poseReport ∧ (publishPose s).lnc.latch = s.lnc.latch ∧
    (publishPose s).lnc.commandCrc = s.lnc.commandCrc ∧
    (publishPose s).lnc.commandDropped = s.lnc.commandDropped := by
  simp [publishPose]

@[simp] theorem publishPose_gmu (s : State) :
    (publishPose s).gmu.pose = formPose s ∧ (publishPose s).gmu.rateMem = some (rateMemOf s.siu) ∧
    (publishPose s).gmu.poseTimer = s.gmu.poseTimer.map (· + 20) := by
  simp [publishPose]

/-- The pose offered to the accumulator (R69). -/
@[simp] theorem offerSample_frame (s : State) :
    (offerSample s).pending = s.pending ∧ (offerSample s).now = s.now ∧ (offerSample s).draws = s.draws ∧
    (offerSample s).power = s.power ∧ (offerSample s).clock = s.clock ∧ (offerSample s).store = s.store ∧
    (offerSample s).mdc = s.mdc ∧ (offerSample s).siu = s.siu ∧ (offerSample s).gmu = s.gmu ∧
    (offerSample s).evu = s.evu ∧ (offerSample s).eeu = s.eeu ∧ (offerSample s).svu = s.svu ∧
    (offerSample s).rts = s.rts ∧ (offerSample s).lnc = s.lnc := by
  simp only [offerSample]
  (repeat' split) <;> simp

/-- The tests against the target (R73). -/
@[simp] theorem targetTests_frame (b : Bool) (t : Truck) (s : State) :
    (targetTests b t s).pending = s.pending ∧ (targetTests b t s).now = s.now ∧ (targetTests b t s).draws = s.draws ∧
    (targetTests b t s).power = s.power ∧ (targetTests b t s).clock = s.clock ∧ (targetTests b t s).store = s.store ∧
    (targetTests b t s).mdc = s.mdc ∧ (targetTests b t s).siu = s.siu ∧ (targetTests b t s).gmu = s.gmu ∧
    (targetTests b t s).plu = s.plu ∧ (targetTests b t s).evu = s.evu ∧ (targetTests b t s).eeu = s.eeu ∧
    (targetTests b t s).svu = s.svu ∧ (targetTests b t s).rts = s.rts ∧ (targetTests b t s).lnc.ctlA = s.lnc.ctlA ∧
    (targetTests b t s).lnc.ctlB = s.lnc.ctlB ∧ (targetTests b t s).lnc.ctlS = s.lnc.ctlS ∧
    (targetTests b t s).lnc.rateA = s.lnc.rateA ∧ (targetTests b t s).lnc.rateB = s.lnc.rateB ∧
    (targetTests b t s).lnc.rateS = s.lnc.rateS ∧ (targetTests b t s).lnc.txGrant = s.lnc.txGrant ∧
    (targetTests b t s).lnc.txReq1 = s.lnc.txReq1 ∧ (targetTests b t s).lnc.txReq2 = s.lnc.txReq2 ∧
    (targetTests b t s).lnc.txPose = s.lnc.txPose ∧ (targetTests b t s).lnc.replies = s.lnc.replies ∧
    (targetTests b t s).lnc.half = s.lnc.half ∧ (targetTests b t s).lnc.lastNotice = s.lnc.lastNotice ∧
    (targetTests b t s).lnc.pvcTimer = s.lnc.pvcTimer ∧ (targetTests b t s).lnc.pvcSilent = s.lnc.pvcSilent ∧
    (targetTests b t s).lnc.poseReport = s.lnc.poseReport ∧ (targetTests b t s).lnc.latch = s.lnc.latch ∧
    (targetTests b t s).lnc.commandCrc = s.lnc.commandCrc ∧
    (targetTests b t s).lnc.commandDropped = s.lnc.commandDropped := by
  simp only [targetTests]
  (repeat' split) <;> simp

/-- A truck closed (R76). -/
@[simp] theorem closeTruck_frame (t : Truck) (s : State) :
    (closeTruck t s).pending = s.pending ∧ (closeTruck t s).now = s.now ∧ (closeTruck t s).draws = s.draws ∧
    (closeTruck t s).power = s.power ∧ (closeTruck t s).clock = s.clock ∧ (closeTruck t s).store = s.store ∧
    (closeTruck t s).mdc.mode = s.mdc.mode ∧ (closeTruck t s).mdc.cause = s.mdc.cause ∧
    (closeTruck t s).mdc.keyState = s.mdc.keyState ∧ (closeTruck t s).mdc.lockout = s.mdc.lockout ∧
    (closeTruck t s).mdc.calStatus = s.mdc.calStatus ∧ (closeTruck t s).mdc.stSilence = s.mdc.stSilence ∧
    (closeTruck t s).mdc.resetPending = s.mdc.resetPending ∧ (closeTruck t s).mdc.resetWait = s.mdc.resetWait ∧
    (closeTruck t s).siu = s.siu ∧ (closeTruck t s).gmu = s.gmu ∧ (closeTruck t s).evu.fences = s.evu.fences ∧
    (closeTruck t s).evu.dataLost = s.evu.dataLost ∧ (closeTruck t s).evu.levers = s.evu.levers ∧
    (closeTruck t s).evu.grant = s.evu.grant ∧ (closeTruck t s).evu.refresh = s.evu.refresh ∧
    (closeTruck t s).evu.outstanding = s.evu.outstanding ∧ (closeTruck t s).evu.unconfirmed = s.evu.unconfirmed ∧
    (closeTruck t s).eeu = s.eeu ∧ (closeTruck t s).svu.loaded = s.svu.loaded ∧
    (closeTruck t s).svu.dayMark = s.svu.dayMark ∧ (closeTruck t s).svu.metersLost = s.svu.metersLost ∧
    (closeTruck t s).svu.saveTimer = s.svu.saveTimer ∧ (closeTruck t s).svu.reminderTimer = s.svu.reminderTimer ∧
    (closeTruck t s).svu.entrySaveBegun = s.svu.entrySaveBegun ∧ (closeTruck t s).rts.cal = s.rts.cal ∧
    (closeTruck t s).rts.inFlight = s.rts.inFlight ∧ (closeTruck t s).rts.failed = s.rts.failed ∧
    (closeTruck t s).rts.token = s.rts.token ∧ (closeTruck t s).lnc.ctlA = s.lnc.ctlA ∧
    (closeTruck t s).lnc.ctlB = s.lnc.ctlB ∧ (closeTruck t s).lnc.ctlS = s.lnc.ctlS ∧
    (closeTruck t s).lnc.rateA = s.lnc.rateA ∧ (closeTruck t s).lnc.rateB = s.lnc.rateB ∧
    (closeTruck t s).lnc.rateS = s.lnc.rateS ∧ (closeTruck t s).lnc.txGrant = s.lnc.txGrant ∧
    (closeTruck t s).lnc.txReq1 = s.lnc.txReq1 ∧ (closeTruck t s).lnc.txReq2 = s.lnc.txReq2 ∧
    (closeTruck t s).lnc.txPose = s.lnc.txPose ∧ (closeTruck t s).lnc.replies = s.lnc.replies ∧
    (closeTruck t s).lnc.half = s.lnc.half ∧ (closeTruck t s).lnc.lastNotice = s.lnc.lastNotice ∧
    (closeTruck t s).lnc.pvcTimer = s.lnc.pvcTimer ∧ (closeTruck t s).lnc.pvcSilent = s.lnc.pvcSilent ∧
    (closeTruck t s).lnc.poseReport = s.lnc.poseReport ∧ (closeTruck t s).lnc.latch = s.lnc.latch ∧
    (closeTruck t s).lnc.commandCrc = s.lnc.commandCrc ∧
    (closeTruck t s).lnc.commandDropped = s.lnc.commandDropped := by
  simp [closeTruck]

/-- The open truck closed (R75). -/
@[simp] theorem closeOpenTruck_frame (s : State) :
    (closeOpenTruck s).pending = s.pending ∧ (closeOpenTruck s).now = s.now ∧ (closeOpenTruck s).draws = s.draws ∧
    (closeOpenTruck s).power = s.power ∧ (closeOpenTruck s).clock = s.clock ∧ (closeOpenTruck s).store = s.store ∧
    (closeOpenTruck s).mdc.mode = s.mdc.mode ∧ (closeOpenTruck s).mdc.cause = s.mdc.cause ∧
    (closeOpenTruck s).mdc.keyState = s.mdc.keyState ∧ (closeOpenTruck s).mdc.lockout = s.mdc.lockout ∧
    (closeOpenTruck s).mdc.calStatus = s.mdc.calStatus ∧ (closeOpenTruck s).mdc.stSilence = s.mdc.stSilence ∧
    (closeOpenTruck s).mdc.resetPending = s.mdc.resetPending ∧ (closeOpenTruck s).mdc.resetWait = s.mdc.resetWait ∧
    (closeOpenTruck s).siu = s.siu ∧ (closeOpenTruck s).gmu = s.gmu ∧ (closeOpenTruck s).evu.fences = s.evu.fences ∧
    (closeOpenTruck s).evu.dataLost = s.evu.dataLost ∧ (closeOpenTruck s).evu.levers = s.evu.levers ∧
    (closeOpenTruck s).evu.grant = s.evu.grant ∧ (closeOpenTruck s).evu.refresh = s.evu.refresh ∧
    (closeOpenTruck s).evu.outstanding = s.evu.outstanding ∧ (closeOpenTruck s).evu.unconfirmed = s.evu.unconfirmed ∧
    (closeOpenTruck s).eeu = s.eeu ∧ (closeOpenTruck s).svu.loaded = s.svu.loaded ∧
    (closeOpenTruck s).svu.dayMark = s.svu.dayMark ∧ (closeOpenTruck s).svu.metersLost = s.svu.metersLost ∧
    (closeOpenTruck s).svu.saveTimer = s.svu.saveTimer ∧ (closeOpenTruck s).svu.reminderTimer = s.svu.reminderTimer ∧
    (closeOpenTruck s).svu.entrySaveBegun = s.svu.entrySaveBegun ∧ (closeOpenTruck s).rts.cal = s.rts.cal ∧
    (closeOpenTruck s).rts.inFlight = s.rts.inFlight ∧ (closeOpenTruck s).rts.failed = s.rts.failed ∧
    (closeOpenTruck s).rts.token = s.rts.token ∧ (closeOpenTruck s).lnc.ctlA = s.lnc.ctlA ∧
    (closeOpenTruck s).lnc.ctlB = s.lnc.ctlB ∧ (closeOpenTruck s).lnc.ctlS = s.lnc.ctlS ∧
    (closeOpenTruck s).lnc.rateA = s.lnc.rateA ∧ (closeOpenTruck s).lnc.rateB = s.lnc.rateB ∧
    (closeOpenTruck s).lnc.rateS = s.lnc.rateS ∧ (closeOpenTruck s).lnc.txGrant = s.lnc.txGrant ∧
    (closeOpenTruck s).lnc.txReq1 = s.lnc.txReq1 ∧ (closeOpenTruck s).lnc.txReq2 = s.lnc.txReq2 ∧
    (closeOpenTruck s).lnc.txPose = s.lnc.txPose ∧ (closeOpenTruck s).lnc.replies = s.lnc.replies ∧
    (closeOpenTruck s).lnc.half = s.lnc.half ∧ (closeOpenTruck s).lnc.lastNotice = s.lnc.lastNotice ∧
    (closeOpenTruck s).lnc.pvcTimer = s.lnc.pvcTimer ∧ (closeOpenTruck s).lnc.pvcSilent = s.lnc.pvcSilent ∧
    (closeOpenTruck s).lnc.poseReport = s.lnc.poseReport ∧ (closeOpenTruck s).lnc.latch = s.lnc.latch ∧
    (closeOpenTruck s).lnc.commandCrc = s.lnc.commandCrc ∧
    (closeOpenTruck s).lnc.commandDropped = s.lnc.commandDropped := by
  simp only [closeOpenTruck]
  (repeat' split) <;> simp

/-- A pass joins its truck (R71). -/
@[simp] theorem joinPass_frame (p : Pass) (s : State) :
    (joinPass p s).pending = s.pending ∧ (joinPass p s).now = s.now ∧ (joinPass p s).draws = s.draws ∧
    (joinPass p s).power = s.power ∧ (joinPass p s).clock = s.clock ∧ (joinPass p s).store = s.store ∧
    (joinPass p s).mdc.mode = s.mdc.mode ∧ (joinPass p s).mdc.cause = s.mdc.cause ∧
    (joinPass p s).mdc.keyState = s.mdc.keyState ∧ (joinPass p s).mdc.lockout = s.mdc.lockout ∧
    (joinPass p s).mdc.calStatus = s.mdc.calStatus ∧ (joinPass p s).mdc.stSilence = s.mdc.stSilence ∧
    (joinPass p s).mdc.resetPending = s.mdc.resetPending ∧ (joinPass p s).mdc.resetWait = s.mdc.resetWait ∧
    (joinPass p s).siu = s.siu ∧ (joinPass p s).gmu = s.gmu ∧ (joinPass p s).evu.fences = s.evu.fences ∧
    (joinPass p s).evu.dataLost = s.evu.dataLost ∧ (joinPass p s).evu.levers = s.evu.levers ∧
    (joinPass p s).evu.grant = s.evu.grant ∧ (joinPass p s).evu.refresh = s.evu.refresh ∧
    (joinPass p s).evu.outstanding = s.evu.outstanding ∧ (joinPass p s).evu.unconfirmed = s.evu.unconfirmed ∧
    (joinPass p s).eeu = s.eeu ∧ (joinPass p s).svu.loaded = s.svu.loaded ∧
    (joinPass p s).svu.dayMark = s.svu.dayMark ∧ (joinPass p s).svu.metersLost = s.svu.metersLost ∧
    (joinPass p s).svu.saveTimer = s.svu.saveTimer ∧ (joinPass p s).svu.reminderTimer = s.svu.reminderTimer ∧
    (joinPass p s).svu.entrySaveBegun = s.svu.entrySaveBegun ∧ (joinPass p s).rts.cal = s.rts.cal ∧
    (joinPass p s).rts.inFlight = s.rts.inFlight ∧ (joinPass p s).rts.failed = s.rts.failed ∧
    (joinPass p s).rts.token = s.rts.token ∧ (joinPass p s).lnc.ctlA = s.lnc.ctlA ∧
    (joinPass p s).lnc.ctlB = s.lnc.ctlB ∧ (joinPass p s).lnc.ctlS = s.lnc.ctlS ∧
    (joinPass p s).lnc.rateA = s.lnc.rateA ∧ (joinPass p s).lnc.rateB = s.lnc.rateB ∧
    (joinPass p s).lnc.rateS = s.lnc.rateS ∧ (joinPass p s).lnc.txGrant = s.lnc.txGrant ∧
    (joinPass p s).lnc.txReq1 = s.lnc.txReq1 ∧ (joinPass p s).lnc.txReq2 = s.lnc.txReq2 ∧
    (joinPass p s).lnc.txPose = s.lnc.txPose ∧ (joinPass p s).lnc.replies = s.lnc.replies ∧
    (joinPass p s).lnc.half = s.lnc.half ∧ (joinPass p s).lnc.lastNotice = s.lnc.lastNotice ∧
    (joinPass p s).lnc.pvcTimer = s.lnc.pvcTimer ∧ (joinPass p s).lnc.pvcSilent = s.lnc.pvcSilent ∧
    (joinPass p s).lnc.poseReport = s.lnc.poseReport ∧ (joinPass p s).lnc.latch = s.lnc.latch ∧
    (joinPass p s).lnc.commandCrc = s.lnc.commandCrc ∧ (joinPass p s).lnc.commandDropped = s.lnc.commandDropped := by
  simp only [joinPass]
  (repeat' split) <;> simp

/-- The detector in READY (R60). -/
@[simp] theorem detectorReady_frame (s : State) :
    (detectorReady s).pending = s.pending ∧ (detectorReady s).now = s.now ∧ (detectorReady s).draws = s.draws ∧
    (detectorReady s).power = s.power ∧ (detectorReady s).clock = s.clock ∧ (detectorReady s).store = s.store ∧
    (detectorReady s).mdc = s.mdc ∧ (detectorReady s).siu = s.siu ∧ (detectorReady s).gmu = s.gmu ∧
    (detectorReady s).evu = s.evu ∧ (detectorReady s).eeu = s.eeu ∧ (detectorReady s).svu = s.svu ∧
    (detectorReady s).rts = s.rts ∧ (detectorReady s).lnc = s.lnc := by
  simp [detectorReady]

/-- Entry to CARRY (R61). -/
@[simp] theorem startCarry_frame (s : State) :
    (startCarry s).pending = s.pending ∧ (startCarry s).now = s.now ∧ (startCarry s).draws = s.draws ∧
    (startCarry s).power = s.power ∧ (startCarry s).clock = s.clock ∧ (startCarry s).store = s.store ∧
    (startCarry s).mdc = s.mdc ∧ (startCarry s).siu = s.siu ∧ (startCarry s).gmu = s.gmu ∧
    (startCarry s).evu = s.evu ∧ (startCarry s).eeu = s.eeu ∧ (startCarry s).svu = s.svu ∧
    (startCarry s).rts = s.rts ∧ (startCarry s).lnc = s.lnc := by
  simp [startCarry]

/-- The detector at a pose (R60). -/
@[simp] theorem detectPass_frame (s : State) :
    (detectPass s).pending = s.pending ∧ (detectPass s).now = s.now ∧ (detectPass s).draws = s.draws ∧
    (detectPass s).power = s.power ∧ (detectPass s).clock = s.clock ∧ (detectPass s).store = s.store ∧
    (detectPass s).mdc.mode = s.mdc.mode ∧ (detectPass s).mdc.cause = s.mdc.cause ∧
    (detectPass s).mdc.keyState = s.mdc.keyState ∧ (detectPass s).mdc.lockout = s.mdc.lockout ∧
    (detectPass s).mdc.calStatus = s.mdc.calStatus ∧ (detectPass s).mdc.stSilence = s.mdc.stSilence ∧
    (detectPass s).mdc.resetPending = s.mdc.resetPending ∧ (detectPass s).mdc.resetWait = s.mdc.resetWait ∧
    (detectPass s).siu = s.siu ∧ (detectPass s).gmu = s.gmu ∧ (detectPass s).evu.fences = s.evu.fences ∧
    (detectPass s).evu.dataLost = s.evu.dataLost ∧ (detectPass s).evu.levers = s.evu.levers ∧
    (detectPass s).evu.grant = s.evu.grant ∧ (detectPass s).evu.refresh = s.evu.refresh ∧
    (detectPass s).evu.outstanding = s.evu.outstanding ∧ (detectPass s).evu.unconfirmed = s.evu.unconfirmed ∧
    (detectPass s).eeu = s.eeu ∧ (detectPass s).svu.loaded = s.svu.loaded ∧
    (detectPass s).svu.dayMark = s.svu.dayMark ∧ (detectPass s).svu.metersLost = s.svu.metersLost ∧
    (detectPass s).svu.saveTimer = s.svu.saveTimer ∧ (detectPass s).svu.reminderTimer = s.svu.reminderTimer ∧
    (detectPass s).svu.entrySaveBegun = s.svu.entrySaveBegun ∧ (detectPass s).rts.cal = s.rts.cal ∧
    (detectPass s).rts.inFlight = s.rts.inFlight ∧ (detectPass s).rts.failed = s.rts.failed ∧
    (detectPass s).rts.token = s.rts.token ∧ (detectPass s).lnc.ctlA = s.lnc.ctlA ∧
    (detectPass s).lnc.ctlB = s.lnc.ctlB ∧ (detectPass s).lnc.ctlS = s.lnc.ctlS ∧
    (detectPass s).lnc.rateA = s.lnc.rateA ∧ (detectPass s).lnc.rateB = s.lnc.rateB ∧
    (detectPass s).lnc.rateS = s.lnc.rateS ∧ (detectPass s).lnc.txGrant = s.lnc.txGrant ∧
    (detectPass s).lnc.txReq1 = s.lnc.txReq1 ∧ (detectPass s).lnc.txReq2 = s.lnc.txReq2 ∧
    (detectPass s).lnc.txPose = s.lnc.txPose ∧ (detectPass s).lnc.replies = s.lnc.replies ∧
    (detectPass s).lnc.half = s.lnc.half ∧ (detectPass s).lnc.lastNotice = s.lnc.lastNotice ∧
    (detectPass s).lnc.pvcTimer = s.lnc.pvcTimer ∧ (detectPass s).lnc.pvcSilent = s.lnc.pvcSilent ∧
    (detectPass s).lnc.poseReport = s.lnc.poseReport ∧ (detectPass s).lnc.latch = s.lnc.latch ∧
    (detectPass s).lnc.commandCrc = s.lnc.commandCrc ∧ (detectPass s).lnc.commandDropped = s.lnc.commandDropped := by
  simp only [detectPass]
  (repeat' split) <;> simp

/-- The PLU at a pose (R60, R64). -/
@[simp] theorem payloadPose_frame (s : State) :
    (payloadPose s).pending = s.pending ∧ (payloadPose s).now = s.now ∧ (payloadPose s).draws = s.draws ∧
    (payloadPose s).power = s.power ∧ (payloadPose s).clock = s.clock ∧ (payloadPose s).store = s.store ∧
    (payloadPose s).mdc.mode = s.mdc.mode ∧ (payloadPose s).mdc.cause = s.mdc.cause ∧
    (payloadPose s).mdc.keyState = s.mdc.keyState ∧ (payloadPose s).mdc.lockout = s.mdc.lockout ∧
    (payloadPose s).mdc.calStatus = s.mdc.calStatus ∧ (payloadPose s).mdc.stSilence = s.mdc.stSilence ∧
    (payloadPose s).mdc.resetPending = s.mdc.resetPending ∧ (payloadPose s).mdc.resetWait = s.mdc.resetWait ∧
    (payloadPose s).siu = s.siu ∧ (payloadPose s).gmu = s.gmu ∧ (payloadPose s).evu.fences = s.evu.fences ∧
    (payloadPose s).evu.dataLost = s.evu.dataLost ∧ (payloadPose s).evu.levers = s.evu.levers ∧
    (payloadPose s).evu.grant = s.evu.grant ∧ (payloadPose s).evu.refresh = s.evu.refresh ∧
    (payloadPose s).evu.outstanding = s.evu.outstanding ∧ (payloadPose s).evu.unconfirmed = s.evu.unconfirmed ∧
    (payloadPose s).eeu = s.eeu ∧ (payloadPose s).svu.loaded = s.svu.loaded ∧
    (payloadPose s).svu.dayMark = s.svu.dayMark ∧ (payloadPose s).svu.metersLost = s.svu.metersLost ∧
    (payloadPose s).svu.saveTimer = s.svu.saveTimer ∧ (payloadPose s).svu.reminderTimer = s.svu.reminderTimer ∧
    (payloadPose s).svu.entrySaveBegun = s.svu.entrySaveBegun ∧ (payloadPose s).rts.cal = s.rts.cal ∧
    (payloadPose s).rts.inFlight = s.rts.inFlight ∧ (payloadPose s).rts.failed = s.rts.failed ∧
    (payloadPose s).rts.token = s.rts.token ∧ (payloadPose s).lnc.ctlA = s.lnc.ctlA ∧
    (payloadPose s).lnc.ctlB = s.lnc.ctlB ∧ (payloadPose s).lnc.ctlS = s.lnc.ctlS ∧
    (payloadPose s).lnc.rateA = s.lnc.rateA ∧ (payloadPose s).lnc.rateB = s.lnc.rateB ∧
    (payloadPose s).lnc.rateS = s.lnc.rateS ∧ (payloadPose s).lnc.txGrant = s.lnc.txGrant ∧
    (payloadPose s).lnc.txReq1 = s.lnc.txReq1 ∧ (payloadPose s).lnc.txReq2 = s.lnc.txReq2 ∧
    (payloadPose s).lnc.txPose = s.lnc.txPose ∧ (payloadPose s).lnc.replies = s.lnc.replies ∧
    (payloadPose s).lnc.half = s.lnc.half ∧ (payloadPose s).lnc.lastNotice = s.lnc.lastNotice ∧
    (payloadPose s).lnc.pvcTimer = s.lnc.pvcTimer ∧ (payloadPose s).lnc.pvcSilent = s.lnc.pvcSilent ∧
    (payloadPose s).lnc.poseReport = s.lnc.poseReport ∧ (payloadPose s).lnc.latch = s.lnc.latch ∧
    (payloadPose s).lnc.commandCrc = s.lnc.commandCrc ∧
    (payloadPose s).lnc.commandDropped = s.lnc.commandDropped := by
  simp only [payloadPose]
  (repeat' split) <;> simp

end Sys2Proof.Laws
end

