-- ==== Sys2Proof/Laws/Store.lean ====
section
/-! SUPPORT. What the operations of the token and of the Retained Store change, one lemma each. -/

namespace Sys2Proof.Laws

open Sys2Proof Sys2Proof.Machine

/-- Staging emptied (R93). -/
@[simp] theorem emptyStaging_frame (s : State) :
    (emptyStaging s).pending = s.pending ∧ (emptyStaging s).now = s.now ∧ (emptyStaging s).draws = s.draws ∧
    (emptyStaging s).power = s.power ∧ (emptyStaging s).clock = s.clock ∧ (emptyStaging s).store = s.store ∧
    (emptyStaging s).mdc = s.mdc ∧ (emptyStaging s).siu = s.siu ∧ (emptyStaging s).gmu = s.gmu ∧
    (emptyStaging s).plu = s.plu ∧ (emptyStaging s).evu = s.evu ∧ (emptyStaging s).eeu = s.eeu ∧
    (emptyStaging s).svu = s.svu ∧ (emptyStaging s).rts.cal = s.rts.cal ∧
    (emptyStaging s).rts.pendingSave = s.rts.pendingSave ∧ (emptyStaging s).rts.inFlight = s.rts.inFlight ∧
    (emptyStaging s).rts.failed = s.rts.failed ∧ (emptyStaging s).lnc.ctlA = s.lnc.ctlA ∧
    (emptyStaging s).lnc.ctlB = s.lnc.ctlB ∧ (emptyStaging s).lnc.ctlS = s.lnc.ctlS ∧
    (emptyStaging s).lnc.rateA = s.lnc.rateA ∧ (emptyStaging s).lnc.rateB = s.lnc.rateB ∧
    (emptyStaging s).lnc.rateS = s.lnc.rateS ∧ (emptyStaging s).lnc.txGrant = s.lnc.txGrant ∧
    (emptyStaging s).lnc.txReq1 = s.lnc.txReq1 ∧ (emptyStaging s).lnc.txReq2 = s.lnc.txReq2 ∧
    (emptyStaging s).lnc.txPose = s.lnc.txPose ∧ (emptyStaging s).lnc.replies = s.lnc.replies ∧
    (emptyStaging s).lnc.notices = s.lnc.notices ∧ (emptyStaging s).lnc.lastNotice = s.lnc.lastNotice ∧
    (emptyStaging s).lnc.pvcTimer = s.lnc.pvcTimer ∧ (emptyStaging s).lnc.pvcSilent = s.lnc.pvcSilent ∧
    (emptyStaging s).lnc.poseReport = s.lnc.poseReport ∧ (emptyStaging s).lnc.latch = s.lnc.latch ∧
    (emptyStaging s).lnc.commandCrc = s.lnc.commandCrc ∧ (emptyStaging s).lnc.commandDropped = s.lnc.commandDropped ∧
    (emptyStaging s).lnc.noticeOverflow = s.lnc.noticeOverflow := by
  simp [emptyStaging]

/-- A master becomes the holder (R88). -/
@[simp] theorem makeHolder_frame (c : Claim) (s : State) :
    (makeHolder c s).pending = s.pending ∧ (makeHolder c s).now = s.now ∧ (makeHolder c s).draws = s.draws ∧
    (makeHolder c s).power = s.power ∧ (makeHolder c s).clock = s.clock ∧ (makeHolder c s).store = s.store ∧
    (makeHolder c s).mdc = s.mdc ∧ (makeHolder c s).siu = s.siu ∧ (makeHolder c s).gmu = s.gmu ∧
    (makeHolder c s).plu = s.plu ∧ (makeHolder c s).evu = s.evu ∧ (makeHolder c s).eeu = s.eeu ∧
    (makeHolder c s).svu = s.svu ∧ (makeHolder c s).rts.cal = s.rts.cal ∧
    (makeHolder c s).rts.pendingSave = s.rts.pendingSave ∧ (makeHolder c s).rts.inFlight = s.rts.inFlight ∧
    (makeHolder c s).rts.failed = s.rts.failed ∧ (makeHolder c s).lnc = s.lnc := by
  simp [makeHolder]

/-- The token free (R91). -/
@[simp] theorem freeToken_frame (s : State) :
    (freeToken s).pending = s.pending ∧ (freeToken s).now = s.now ∧ (freeToken s).draws = s.draws ∧
    (freeToken s).power = s.power ∧ (freeToken s).clock = s.clock ∧ (freeToken s).store = s.store ∧
    (freeToken s).mdc = s.mdc ∧ (freeToken s).siu = s.siu ∧ (freeToken s).gmu = s.gmu ∧ (freeToken s).plu = s.plu ∧
    (freeToken s).evu = s.evu ∧ (freeToken s).eeu = s.eeu ∧ (freeToken s).svu = s.svu ∧
    (freeToken s).rts.cal = s.rts.cal ∧ (freeToken s).rts.pendingSave = s.rts.pendingSave ∧
    (freeToken s).rts.inFlight = s.rts.inFlight ∧ (freeToken s).rts.failed = s.rts.failed ∧
    (freeToken s).lnc = s.lnc := by
  simp [freeToken]

/-- TOKEN_LOST (R89). -/
@[simp] theorem notifyLost_frame (m : Master) (s : State) :
    (notifyLost m s).pending = s.pending ∧ (notifyLost m s).now = s.now ∧ (notifyLost m s).draws = s.draws ∧
    (notifyLost m s).power = s.power ∧ (notifyLost m s).clock = s.clock ∧ (notifyLost m s).store = s.store ∧
    (notifyLost m s).mdc = s.mdc ∧ (notifyLost m s).siu = s.siu ∧ (notifyLost m s).gmu = s.gmu ∧
    (notifyLost m s).plu = s.plu ∧ (notifyLost m s).evu = s.evu ∧ (notifyLost m s).eeu = s.eeu ∧
    (notifyLost m s).svu = s.svu ∧ (notifyLost m s).rts = s.rts ∧ (notifyLost m s).lnc.ctlA = s.lnc.ctlA ∧
    (notifyLost m s).lnc.ctlB = s.lnc.ctlB ∧ (notifyLost m s).lnc.ctlS = s.lnc.ctlS ∧
    (notifyLost m s).lnc.rateA = s.lnc.rateA ∧ (notifyLost m s).lnc.rateB = s.lnc.rateB ∧
    (notifyLost m s).lnc.rateS = s.lnc.rateS ∧ (notifyLost m s).lnc.txGrant = s.lnc.txGrant ∧
    (notifyLost m s).lnc.txReq1 = s.lnc.txReq1 ∧ (notifyLost m s).lnc.txReq2 = s.lnc.txReq2 ∧
    (notifyLost m s).lnc.txPose = s.lnc.txPose ∧ (notifyLost m s).lnc.replies = s.lnc.replies ∧
    (notifyLost m s).lnc.half = s.lnc.half ∧ (notifyLost m s).lnc.lastNotice = s.lnc.lastNotice ∧
    (notifyLost m s).lnc.pvcTimer = s.lnc.pvcTimer ∧ (notifyLost m s).lnc.pvcSilent = s.lnc.pvcSilent ∧
    (notifyLost m s).lnc.poseReport = s.lnc.poseReport ∧ (notifyLost m s).lnc.latch = s.lnc.latch ∧
    (notifyLost m s).lnc.commandCrc = s.lnc.commandCrc ∧
    (notifyLost m s).lnc.commandDropped = s.lnc.commandDropped := by
  simp [notifyLost]

/-- TOKEN_GRANTED (R91). -/
@[simp] theorem notifyGranted_frame (m : Master) (s : State) :
    (notifyGranted m s).pending = s.pending ∧ (notifyGranted m s).now = s.now ∧ (notifyGranted m s).draws = s.draws ∧
    (notifyGranted m s).power = s.power ∧ (notifyGranted m s).clock = s.clock ∧ (notifyGranted m s).store = s.store ∧
    (notifyGranted m s).mdc = s.mdc ∧ (notifyGranted m s).siu = s.siu ∧ (notifyGranted m s).gmu = s.gmu ∧
    (notifyGranted m s).plu = s.plu ∧ (notifyGranted m s).evu = s.evu ∧ (notifyGranted m s).eeu = s.eeu ∧
    (notifyGranted m s).svu = s.svu ∧ (notifyGranted m s).rts = s.rts ∧ (notifyGranted m s).lnc.ctlA = s.lnc.ctlA ∧
    (notifyGranted m s).lnc.ctlB = s.lnc.ctlB ∧ (notifyGranted m s).lnc.ctlS = s.lnc.ctlS ∧
    (notifyGranted m s).lnc.rateA = s.lnc.rateA ∧ (notifyGranted m s).lnc.rateB = s.lnc.rateB ∧
    (notifyGranted m s).lnc.rateS = s.lnc.rateS ∧ (notifyGranted m s).lnc.txGrant = s.lnc.txGrant ∧
    (notifyGranted m s).lnc.txReq1 = s.lnc.txReq1 ∧ (notifyGranted m s).lnc.txReq2 = s.lnc.txReq2 ∧
    (notifyGranted m s).lnc.txPose = s.lnc.txPose ∧ (notifyGranted m s).lnc.replies = s.lnc.replies ∧
    (notifyGranted m s).lnc.half = s.lnc.half ∧ (notifyGranted m s).lnc.lastNotice = s.lnc.lastNotice ∧
    (notifyGranted m s).lnc.pvcTimer = s.lnc.pvcTimer ∧ (notifyGranted m s).lnc.pvcSilent = s.lnc.pvcSilent ∧
    (notifyGranted m s).lnc.poseReport = s.lnc.poseReport ∧ (notifyGranted m s).lnc.latch = s.lnc.latch ∧
    (notifyGranted m s).lnc.commandCrc = s.lnc.commandCrc ∧
    (notifyGranted m s).lnc.commandDropped = s.lnc.commandDropped := by
  simp [notifyGranted]

/-- TOKEN_LOST for the holder (R92). -/
@[simp] theorem notifyHolderLost_frame (s : State) :
    (notifyHolderLost s).pending = s.pending ∧ (notifyHolderLost s).now = s.now ∧
    (notifyHolderLost s).draws = s.draws ∧ (notifyHolderLost s).power = s.power ∧
    (notifyHolderLost s).clock = s.clock ∧ (notifyHolderLost s).store = s.store ∧ (notifyHolderLost s).mdc = s.mdc ∧
    (notifyHolderLost s).siu = s.siu ∧ (notifyHolderLost s).gmu = s.gmu ∧ (notifyHolderLost s).plu = s.plu ∧
    (notifyHolderLost s).evu = s.evu ∧ (notifyHolderLost s).eeu = s.eeu ∧ (notifyHolderLost s).svu = s.svu ∧
    (notifyHolderLost s).rts = s.rts ∧ (notifyHolderLost s).lnc.ctlA = s.lnc.ctlA ∧
    (notifyHolderLost s).lnc.ctlB = s.lnc.ctlB ∧ (notifyHolderLost s).lnc.ctlS = s.lnc.ctlS ∧
    (notifyHolderLost s).lnc.rateA = s.lnc.rateA ∧ (notifyHolderLost s).lnc.rateB = s.lnc.rateB ∧
    (notifyHolderLost s).lnc.rateS = s.lnc.rateS ∧ (notifyHolderLost s).lnc.txGrant = s.lnc.txGrant ∧
    (notifyHolderLost s).lnc.txReq1 = s.lnc.txReq1 ∧ (notifyHolderLost s).lnc.txReq2 = s.lnc.txReq2 ∧
    (notifyHolderLost s).lnc.txPose = s.lnc.txPose ∧ (notifyHolderLost s).lnc.replies = s.lnc.replies ∧
    (notifyHolderLost s).lnc.half = s.lnc.half ∧ (notifyHolderLost s).lnc.lastNotice = s.lnc.lastNotice ∧
    (notifyHolderLost s).lnc.pvcTimer = s.lnc.pvcTimer ∧ (notifyHolderLost s).lnc.pvcSilent = s.lnc.pvcSilent ∧
    (notifyHolderLost s).lnc.poseReport = s.lnc.poseReport ∧ (notifyHolderLost s).lnc.latch = s.lnc.latch ∧
    (notifyHolderLost s).lnc.commandCrc = s.lnc.commandCrc ∧
    (notifyHolderLost s).lnc.commandDropped = s.lnc.commandDropped := by
  simp only [notifyHolderLost]
  (repeat' split) <;> simp

/-- The token passed on (R91). -/
@[simp] theorem passToken_frame (s : State) :
    (passToken s).pending = s.pending ∧ (passToken s).now = s.now ∧ (passToken s).draws = s.draws ∧
    (passToken s).power = s.power ∧ (passToken s).clock = s.clock ∧ (passToken s).store = s.store ∧
    (passToken s).mdc = s.mdc ∧ (passToken s).siu = s.siu ∧ (passToken s).gmu = s.gmu ∧ (passToken s).plu = s.plu ∧
    (passToken s).evu = s.evu ∧ (passToken s).eeu = s.eeu ∧ (passToken s).svu = s.svu ∧
    (passToken s).rts.cal = s.rts.cal ∧ (passToken s).rts.pendingSave = s.rts.pendingSave ∧
    (passToken s).rts.inFlight = s.rts.inFlight ∧ (passToken s).rts.failed = s.rts.failed ∧
    (passToken s).lnc.ctlA = s.lnc.ctlA ∧ (passToken s).lnc.ctlB = s.lnc.ctlB ∧ (passToken s).lnc.ctlS = s.lnc.ctlS ∧
    (passToken s).lnc.rateA = s.lnc.rateA ∧ (passToken s).lnc.rateB = s.lnc.rateB ∧
    (passToken s).lnc.rateS = s.lnc.rateS ∧ (passToken s).lnc.txGrant = s.lnc.txGrant ∧
    (passToken s).lnc.txReq1 = s.lnc.txReq1 ∧ (passToken s).lnc.txReq2 = s.lnc.txReq2 ∧
    (passToken s).lnc.txPose = s.lnc.txPose ∧ (passToken s).lnc.replies = s.lnc.replies ∧
    (passToken s).lnc.half = s.lnc.half ∧ (passToken s).lnc.lastNotice = s.lnc.lastNotice ∧
    (passToken s).lnc.pvcTimer = s.lnc.pvcTimer ∧ (passToken s).lnc.pvcSilent = s.lnc.pvcSilent ∧
    (passToken s).lnc.poseReport = s.lnc.poseReport ∧ (passToken s).lnc.latch = s.lnc.latch ∧
    (passToken s).lnc.commandCrc = s.lnc.commandCrc ∧ (passToken s).lnc.commandDropped = s.lnc.commandDropped := by
  simp only [passToken]
  (repeat' split) <;> simp

/-- The token released (R91). -/
@[simp] theorem releaseToken_frame (s : State) :
    (releaseToken s).pending = s.pending ∧ (releaseToken s).now = s.now ∧ (releaseToken s).draws = s.draws ∧
    (releaseToken s).power = s.power ∧ (releaseToken s).clock = s.clock ∧ (releaseToken s).store = s.store ∧
    (releaseToken s).mdc = s.mdc ∧ (releaseToken s).siu = s.siu ∧ (releaseToken s).gmu = s.gmu ∧
    (releaseToken s).plu = s.plu ∧ (releaseToken s).evu = s.evu ∧ (releaseToken s).eeu = s.eeu ∧
    (releaseToken s).svu = s.svu ∧ (releaseToken s).rts.cal = s.rts.cal ∧
    (releaseToken s).rts.pendingSave = s.rts.pendingSave ∧ (releaseToken s).rts.inFlight = s.rts.inFlight ∧
    (releaseToken s).rts.failed = s.rts.failed ∧ (releaseToken s).lnc.ctlA = s.lnc.ctlA ∧
    (releaseToken s).lnc.ctlB = s.lnc.ctlB ∧ (releaseToken s).lnc.ctlS = s.lnc.ctlS ∧
    (releaseToken s).lnc.rateA = s.lnc.rateA ∧ (releaseToken s).lnc.rateB = s.lnc.rateB ∧
    (releaseToken s).lnc.rateS = s.lnc.rateS ∧ (releaseToken s).lnc.txGrant = s.lnc.txGrant ∧
    (releaseToken s).lnc.txReq1 = s.lnc.txReq1 ∧ (releaseToken s).lnc.txReq2 = s.lnc.txReq2 ∧
    (releaseToken s).lnc.txPose = s.lnc.txPose ∧ (releaseToken s).lnc.replies = s.lnc.replies ∧
    (releaseToken s).lnc.lastNotice = s.lnc.lastNotice ∧ (releaseToken s).lnc.pvcTimer = s.lnc.pvcTimer ∧
    (releaseToken s).lnc.pvcSilent = s.lnc.pvcSilent ∧ (releaseToken s).lnc.poseReport = s.lnc.poseReport ∧
    (releaseToken s).lnc.latch = s.lnc.latch ∧ (releaseToken s).lnc.commandCrc = s.lnc.commandCrc ∧
    (releaseToken s).lnc.commandDropped = s.lnc.commandDropped := by
  simp [releaseToken]

/-- The token lost (R92). -/
@[simp] theorem loseToken_frame (s : State) :
    (loseToken s).pending = s.pending ∧ (loseToken s).now = s.now ∧ (loseToken s).draws = s.draws ∧
    (loseToken s).power = s.power ∧ (loseToken s).clock = s.clock ∧ (loseToken s).store = s.store ∧
    (loseToken s).mdc = s.mdc ∧ (loseToken s).siu = s.siu ∧ (loseToken s).gmu = s.gmu ∧ (loseToken s).plu = s.plu ∧
    (loseToken s).evu = s.evu ∧ (loseToken s).eeu = s.eeu ∧ (loseToken s).svu = s.svu ∧
    (loseToken s).rts.cal = s.rts.cal ∧ (loseToken s).rts.pendingSave = s.rts.pendingSave ∧
    (loseToken s).rts.inFlight = s.rts.inFlight ∧ (loseToken s).rts.failed = s.rts.failed ∧
    (loseToken s).lnc.ctlA = s.lnc.ctlA ∧ (loseToken s).lnc.ctlB = s.lnc.ctlB ∧ (loseToken s).lnc.ctlS = s.lnc.ctlS ∧
    (loseToken s).lnc.rateA = s.lnc.rateA ∧ (loseToken s).lnc.rateB = s.lnc.rateB ∧
    (loseToken s).lnc.rateS = s.lnc.rateS ∧ (loseToken s).lnc.txGrant = s.lnc.txGrant ∧
    (loseToken s).lnc.txReq1 = s.lnc.txReq1 ∧ (loseToken s).lnc.txReq2 = s.lnc.txReq2 ∧
    (loseToken s).lnc.txPose = s.lnc.txPose ∧ (loseToken s).lnc.replies = s.lnc.replies ∧
    (loseToken s).lnc.lastNotice = s.lnc.lastNotice ∧ (loseToken s).lnc.pvcTimer = s.lnc.pvcTimer ∧
    (loseToken s).lnc.pvcSilent = s.lnc.pvcSilent ∧ (loseToken s).lnc.poseReport = s.lnc.poseReport ∧
    (loseToken s).lnc.latch = s.lnc.latch ∧ (loseToken s).lnc.commandCrc = s.lnc.commandCrc ∧
    (loseToken s).lnc.commandDropped = s.lnc.commandDropped := by
  simp [loseToken]

/-- A preemption (R89). -/
@[simp] theorem preempt_frame (c : Claim) (s : State) :
    (preempt c s).pending = s.pending ∧ (preempt c s).now = s.now ∧ (preempt c s).draws = s.draws ∧
    (preempt c s).power = s.power ∧ (preempt c s).clock = s.clock ∧ (preempt c s).store = s.store ∧
    (preempt c s).mdc = s.mdc ∧ (preempt c s).siu = s.siu ∧ (preempt c s).gmu = s.gmu ∧ (preempt c s).plu = s.plu ∧
    (preempt c s).evu = s.evu ∧ (preempt c s).eeu = s.eeu ∧ (preempt c s).svu = s.svu ∧
    (preempt c s).rts.cal = s.rts.cal ∧ (preempt c s).rts.pendingSave = s.rts.pendingSave ∧
    (preempt c s).rts.inFlight = s.rts.inFlight ∧ (preempt c s).rts.failed = s.rts.failed ∧
    (preempt c s).lnc.ctlA = s.lnc.ctlA ∧ (preempt c s).lnc.ctlB = s.lnc.ctlB ∧ (preempt c s).lnc.ctlS = s.lnc.ctlS ∧
    (preempt c s).lnc.rateA = s.lnc.rateA ∧ (preempt c s).lnc.rateB = s.lnc.rateB ∧
    (preempt c s).lnc.rateS = s.lnc.rateS ∧ (preempt c s).lnc.txGrant = s.lnc.txGrant ∧
    (preempt c s).lnc.txReq1 = s.lnc.txReq1 ∧ (preempt c s).lnc.txReq2 = s.lnc.txReq2 ∧
    (preempt c s).lnc.txPose = s.lnc.txPose ∧ (preempt c s).lnc.replies = s.lnc.replies ∧
    (preempt c s).lnc.lastNotice = s.lnc.lastNotice ∧ (preempt c s).lnc.pvcTimer = s.lnc.pvcTimer ∧
    (preempt c s).lnc.pvcSilent = s.lnc.pvcSilent ∧ (preempt c s).lnc.poseReport = s.lnc.poseReport ∧
    (preempt c s).lnc.latch = s.lnc.latch ∧ (preempt c s).lnc.commandCrc = s.lnc.commandCrc ∧
    (preempt c s).lnc.commandDropped = s.lnc.commandDropped := by
  simp [preempt]

/-- A preemption by the first waiter (R88). -/
@[simp] theorem preemptByWaiter_frame (s : State) :
    (preemptByWaiter s).pending = s.pending ∧ (preemptByWaiter s).now = s.now ∧ (preemptByWaiter s).draws = s.draws ∧
    (preemptByWaiter s).power = s.power ∧ (preemptByWaiter s).clock = s.clock ∧ (preemptByWaiter s).store = s.store ∧
    (preemptByWaiter s).mdc = s.mdc ∧ (preemptByWaiter s).siu = s.siu ∧ (preemptByWaiter s).gmu = s.gmu ∧
    (preemptByWaiter s).plu = s.plu ∧ (preemptByWaiter s).evu = s.evu ∧ (preemptByWaiter s).eeu = s.eeu ∧
    (preemptByWaiter s).svu = s.svu ∧ (preemptByWaiter s).rts.cal = s.rts.cal ∧
    (preemptByWaiter s).rts.pendingSave = s.rts.pendingSave ∧ (preemptByWaiter s).rts.inFlight = s.rts.inFlight ∧
    (preemptByWaiter s).rts.failed = s.rts.failed ∧ (preemptByWaiter s).lnc.ctlA = s.lnc.ctlA ∧
    (preemptByWaiter s).lnc.ctlB = s.lnc.ctlB ∧ (preemptByWaiter s).lnc.ctlS = s.lnc.ctlS ∧
    (preemptByWaiter s).lnc.rateA = s.lnc.rateA ∧ (preemptByWaiter s).lnc.rateB = s.lnc.rateB ∧
    (preemptByWaiter s).lnc.rateS = s.lnc.rateS ∧ (preemptByWaiter s).lnc.txGrant = s.lnc.txGrant ∧
    (preemptByWaiter s).lnc.txReq1 = s.lnc.txReq1 ∧ (preemptByWaiter s).lnc.txReq2 = s.lnc.txReq2 ∧
    (preemptByWaiter s).lnc.txPose = s.lnc.txPose ∧ (preemptByWaiter s).lnc.replies = s.lnc.replies ∧
    (preemptByWaiter s).lnc.lastNotice = s.lnc.lastNotice ∧ (preemptByWaiter s).lnc.pvcTimer = s.lnc.pvcTimer ∧
    (preemptByWaiter s).lnc.pvcSilent = s.lnc.pvcSilent ∧ (preemptByWaiter s).lnc.poseReport = s.lnc.poseReport ∧
    (preemptByWaiter s).lnc.latch = s.lnc.latch ∧ (preemptByWaiter s).lnc.commandCrc = s.lnc.commandCrc ∧
    (preemptByWaiter s).lnc.commandDropped = s.lnc.commandDropped := by
  simp only [preemptByWaiter]
  (repeat' split) <;> simp

/-- A waiter placed (R90). -/
@[simp] theorem joinWaiting_frame (c : Claim) (s : State) :
    (joinWaiting c s).pending = s.pending ∧ (joinWaiting c s).now = s.now ∧ (joinWaiting c s).draws = s.draws ∧
    (joinWaiting c s).power = s.power ∧ (joinWaiting c s).clock = s.clock ∧ (joinWaiting c s).store = s.store ∧
    (joinWaiting c s).mdc = s.mdc ∧ (joinWaiting c s).siu = s.siu ∧ (joinWaiting c s).gmu = s.gmu ∧
    (joinWaiting c s).plu = s.plu ∧ (joinWaiting c s).evu = s.evu ∧ (joinWaiting c s).eeu = s.eeu ∧
    (joinWaiting c s).svu = s.svu ∧ (joinWaiting c s).rts.cal = s.rts.cal ∧
    (joinWaiting c s).rts.pendingSave = s.rts.pendingSave ∧ (joinWaiting c s).rts.inFlight = s.rts.inFlight ∧
    (joinWaiting c s).rts.failed = s.rts.failed ∧ (joinWaiting c s).lnc = s.lnc := by
  simp [joinWaiting]

/-- A waiter updated (R88). -/
@[simp] theorem updateWaiter_frame (c : Claim) (s : State) :
    (updateWaiter c s).pending = s.pending ∧ (updateWaiter c s).now = s.now ∧ (updateWaiter c s).draws = s.draws ∧
    (updateWaiter c s).power = s.power ∧ (updateWaiter c s).clock = s.clock ∧ (updateWaiter c s).store = s.store ∧
    (updateWaiter c s).mdc = s.mdc ∧ (updateWaiter c s).siu = s.siu ∧ (updateWaiter c s).gmu = s.gmu ∧
    (updateWaiter c s).plu = s.plu ∧ (updateWaiter c s).evu = s.evu ∧ (updateWaiter c s).eeu = s.eeu ∧
    (updateWaiter c s).svu = s.svu ∧ (updateWaiter c s).rts.cal = s.rts.cal ∧
    (updateWaiter c s).rts.pendingSave = s.rts.pendingSave ∧ (updateWaiter c s).rts.inFlight = s.rts.inFlight ∧
    (updateWaiter c s).rts.failed = s.rts.failed ∧ (updateWaiter c s).lnc = s.lnc := by
  simp [updateWaiter]

/-- A holder that asks again (R88). -/
@[simp] theorem renewHolder_frame (c : Claim) (s : State) :
    (renewHolder c s).pending = s.pending ∧ (renewHolder c s).now = s.now ∧ (renewHolder c s).draws = s.draws ∧
    (renewHolder c s).power = s.power ∧ (renewHolder c s).clock = s.clock ∧ (renewHolder c s).store = s.store ∧
    (renewHolder c s).mdc = s.mdc ∧ (renewHolder c s).siu = s.siu ∧ (renewHolder c s).gmu = s.gmu ∧
    (renewHolder c s).plu = s.plu ∧ (renewHolder c s).evu = s.evu ∧ (renewHolder c s).eeu = s.eeu ∧
    (renewHolder c s).svu = s.svu ∧ (renewHolder c s).rts.cal = s.rts.cal ∧
    (renewHolder c s).rts.pendingSave = s.rts.pendingSave ∧ (renewHolder c s).rts.inFlight = s.rts.inFlight ∧
    (renewHolder c s).rts.failed = s.rts.failed ∧ (renewHolder c s).lnc.ctlA = s.lnc.ctlA ∧
    (renewHolder c s).lnc.ctlB = s.lnc.ctlB ∧ (renewHolder c s).lnc.ctlS = s.lnc.ctlS ∧
    (renewHolder c s).lnc.rateA = s.lnc.rateA ∧ (renewHolder c s).lnc.rateB = s.lnc.rateB ∧
    (renewHolder c s).lnc.rateS = s.lnc.rateS ∧ (renewHolder c s).lnc.txGrant = s.lnc.txGrant ∧
    (renewHolder c s).lnc.txReq1 = s.lnc.txReq1 ∧ (renewHolder c s).lnc.txReq2 = s.lnc.txReq2 ∧
    (renewHolder c s).lnc.txPose = s.lnc.txPose ∧ (renewHolder c s).lnc.replies = s.lnc.replies ∧
    (renewHolder c s).lnc.lastNotice = s.lnc.lastNotice ∧ (renewHolder c s).lnc.pvcTimer = s.lnc.pvcTimer ∧
    (renewHolder c s).lnc.pvcSilent = s.lnc.pvcSilent ∧ (renewHolder c s).lnc.poseReport = s.lnc.poseReport ∧
    (renewHolder c s).lnc.latch = s.lnc.latch ∧ (renewHolder c s).lnc.commandCrc = s.lnc.commandCrc ∧
    (renewHolder c s).lnc.commandDropped = s.lnc.commandDropped := by
  simp only [renewHolder]
  (repeat' split) <;> simp

/-- TOKEN_REQUEST (R88, R89). -/
@[simp] theorem requestToken_frame (c : Claim) (s : State) :
    ((requestToken c s).1).pending = s.pending ∧ ((requestToken c s).1).now = s.now ∧
    ((requestToken c s).1).draws = s.draws ∧ ((requestToken c s).1).power = s.power ∧
    ((requestToken c s).1).clock = s.clock ∧ ((requestToken c s).1).store = s.store ∧
    ((requestToken c s).1).mdc = s.mdc ∧ ((requestToken c s).1).siu = s.siu ∧ ((requestToken c s).1).gmu = s.gmu ∧
    ((requestToken c s).1).plu = s.plu ∧ ((requestToken c s).1).evu = s.evu ∧ ((requestToken c s).1).eeu = s.eeu ∧
    ((requestToken c s).1).svu = s.svu ∧ ((requestToken c s).1).rts.cal = s.rts.cal ∧
    ((requestToken c s).1).rts.pendingSave = s.rts.pendingSave ∧
    ((requestToken c s).1).rts.inFlight = s.rts.inFlight ∧ ((requestToken c s).1).rts.failed = s.rts.failed ∧
    ((requestToken c s).1).lnc.ctlA = s.lnc.ctlA ∧ ((requestToken c s).1).lnc.ctlB = s.lnc.ctlB ∧
    ((requestToken c s).1).lnc.ctlS = s.lnc.ctlS ∧ ((requestToken c s).1).lnc.rateA = s.lnc.rateA ∧
    ((requestToken c s).1).lnc.rateB = s.lnc.rateB ∧ ((requestToken c s).1).lnc.rateS = s.lnc.rateS ∧
    ((requestToken c s).1).lnc.txGrant = s.lnc.txGrant ∧ ((requestToken c s).1).lnc.txReq1 = s.lnc.txReq1 ∧
    ((requestToken c s).1).lnc.txReq2 = s.lnc.txReq2 ∧ ((requestToken c s).1).lnc.txPose = s.lnc.txPose ∧
    ((requestToken c s).1).lnc.replies = s.lnc.replies ∧ ((requestToken c s).1).lnc.lastNotice = s.lnc.lastNotice ∧
    ((requestToken c s).1).lnc.pvcTimer = s.lnc.pvcTimer ∧ ((requestToken c s).1).lnc.pvcSilent = s.lnc.pvcSilent ∧
    ((requestToken c s).1).lnc.poseReport = s.lnc.poseReport ∧ ((requestToken c s).1).lnc.latch = s.lnc.latch ∧
    ((requestToken c s).1).lnc.commandCrc = s.lnc.commandCrc ∧
    ((requestToken c s).1).lnc.commandDropped = s.lnc.commandDropped := by
  simp only [requestToken]
  (repeat' split) <;> simp

/-- The token at 30 s of silence (R92). -/
@[simp] theorem takeSilence_frame (s : State) :
    (takeSilence s).pending = s.pending ∧ (takeSilence s).now = s.now ∧ (takeSilence s).draws = s.draws ∧
    (takeSilence s).power = s.power ∧ (takeSilence s).clock = s.clock ∧ (takeSilence s).store = s.store ∧
    (takeSilence s).mdc = s.mdc ∧ (takeSilence s).siu = s.siu ∧ (takeSilence s).gmu = s.gmu ∧
    (takeSilence s).plu = s.plu ∧ (takeSilence s).evu = s.evu ∧ (takeSilence s).eeu = s.eeu ∧
    (takeSilence s).svu = s.svu ∧ (takeSilence s).rts.cal = s.rts.cal ∧
    (takeSilence s).rts.pendingSave = s.rts.pendingSave ∧ (takeSilence s).rts.inFlight = s.rts.inFlight ∧
    (takeSilence s).rts.failed = s.rts.failed ∧ (takeSilence s).lnc.ctlA = s.lnc.ctlA ∧
    (takeSilence s).lnc.ctlB = s.lnc.ctlB ∧ (takeSilence s).lnc.ctlS = s.lnc.ctlS ∧
    (takeSilence s).lnc.rateA = s.lnc.rateA ∧ (takeSilence s).lnc.rateB = s.lnc.rateB ∧
    (takeSilence s).lnc.rateS = s.lnc.rateS ∧ (takeSilence s).lnc.txGrant = s.lnc.txGrant ∧
    (takeSilence s).lnc.txReq1 = s.lnc.txReq1 ∧ (takeSilence s).lnc.txReq2 = s.lnc.txReq2 ∧
    (takeSilence s).lnc.txPose = s.lnc.txPose ∧ (takeSilence s).lnc.replies = s.lnc.replies ∧
    (takeSilence s).lnc.lastNotice = s.lnc.lastNotice ∧ (takeSilence s).lnc.pvcTimer = s.lnc.pvcTimer ∧
    (takeSilence s).lnc.pvcSilent = s.lnc.pvcSilent ∧ (takeSilence s).lnc.poseReport = s.lnc.poseReport ∧
    (takeSilence s).lnc.latch = s.lnc.latch ∧ (takeSilence s).lnc.commandCrc = s.lnc.commandCrc ∧
    (takeSilence s).lnc.commandDropped = s.lnc.commandDropped := by
  simp only [takeSilence]
  (repeat' split) <;> simp

/-- A loss that waited for a write (R101). -/
@[simp] theorem delayedLoss_frame (s : State) :
    (delayedLoss s).pending = s.pending ∧ (delayedLoss s).now = s.now ∧ (delayedLoss s).draws = s.draws ∧
    (delayedLoss s).power = s.power ∧ (delayedLoss s).clock = s.clock ∧ (delayedLoss s).store = s.store ∧
    (delayedLoss s).mdc = s.mdc ∧ (delayedLoss s).siu = s.siu ∧ (delayedLoss s).gmu = s.gmu ∧
    (delayedLoss s).plu = s.plu ∧ (delayedLoss s).evu = s.evu ∧ (delayedLoss s).eeu = s.eeu ∧
    (delayedLoss s).svu = s.svu ∧ (delayedLoss s).rts.cal = s.rts.cal ∧
    (delayedLoss s).rts.pendingSave = s.rts.pendingSave ∧ (delayedLoss s).rts.inFlight = s.rts.inFlight ∧
    (delayedLoss s).rts.failed = s.rts.failed ∧ (delayedLoss s).lnc.ctlA = s.lnc.ctlA ∧
    (delayedLoss s).lnc.ctlB = s.lnc.ctlB ∧ (delayedLoss s).lnc.ctlS = s.lnc.ctlS ∧
    (delayedLoss s).lnc.rateA = s.lnc.rateA ∧ (delayedLoss s).lnc.rateB = s.lnc.rateB ∧
    (delayedLoss s).lnc.rateS = s.lnc.rateS ∧ (delayedLoss s).lnc.txGrant = s.lnc.txGrant ∧
    (delayedLoss s).lnc.txReq1 = s.lnc.txReq1 ∧ (delayedLoss s).lnc.txReq2 = s.lnc.txReq2 ∧
    (delayedLoss s).lnc.txPose = s.lnc.txPose ∧ (delayedLoss s).lnc.replies = s.lnc.replies ∧
    (delayedLoss s).lnc.lastNotice = s.lnc.lastNotice ∧ (delayedLoss s).lnc.pvcTimer = s.lnc.pvcTimer ∧
    (delayedLoss s).lnc.pvcSilent = s.lnc.pvcSilent ∧ (delayedLoss s).lnc.poseReport = s.lnc.poseReport ∧
    (delayedLoss s).lnc.latch = s.lnc.latch ∧ (delayedLoss s).lnc.commandCrc = s.lnc.commandCrc ∧
    (delayedLoss s).lnc.commandDropped = s.lnc.commandDropped := by
  simp only [delayedLoss]
  (repeat' split) <;> simp

/-- The token at entry to CLOSING (R10). -/
@[simp] theorem closeToken_frame (s : State) :
    (closeToken s).pending = s.pending ∧ (closeToken s).now = s.now ∧ (closeToken s).draws = s.draws ∧
    (closeToken s).power = s.power ∧ (closeToken s).clock = s.clock ∧ (closeToken s).store = s.store ∧
    (closeToken s).mdc = s.mdc ∧ (closeToken s).siu = s.siu ∧ (closeToken s).gmu = s.gmu ∧
    (closeToken s).plu = s.plu ∧ (closeToken s).evu = s.evu ∧ (closeToken s).eeu = s.eeu ∧
    (closeToken s).svu = s.svu ∧ (closeToken s).rts.cal = s.rts.cal ∧
    (closeToken s).rts.pendingSave = s.rts.pendingSave ∧ (closeToken s).rts.inFlight = s.rts.inFlight ∧
    (closeToken s).rts.failed = s.rts.failed ∧ (closeToken s).lnc.ctlA = s.lnc.ctlA ∧
    (closeToken s).lnc.ctlB = s.lnc.ctlB ∧ (closeToken s).lnc.ctlS = s.lnc.ctlS ∧
    (closeToken s).lnc.rateA = s.lnc.rateA ∧ (closeToken s).lnc.rateB = s.lnc.rateB ∧
    (closeToken s).lnc.rateS = s.lnc.rateS ∧ (closeToken s).lnc.txGrant = s.lnc.txGrant ∧
    (closeToken s).lnc.txReq1 = s.lnc.txReq1 ∧ (closeToken s).lnc.txReq2 = s.lnc.txReq2 ∧
    (closeToken s).lnc.txPose = s.lnc.txPose ∧ (closeToken s).lnc.replies = s.lnc.replies ∧
    (closeToken s).lnc.lastNotice = s.lnc.lastNotice ∧ (closeToken s).lnc.pvcTimer = s.lnc.pvcTimer ∧
    (closeToken s).lnc.pvcSilent = s.lnc.pvcSilent ∧ (closeToken s).lnc.poseReport = s.lnc.poseReport ∧
    (closeToken s).lnc.latch = s.lnc.latch ∧ (closeToken s).lnc.commandCrc = s.lnc.commandCrc ∧
    (closeToken s).lnc.commandDropped = s.lnc.commandDropped := by
  simp [closeToken]

/-! ### Banks (R192) -/

/-- A written bank whose CRC is the one over its count and content is good. -/
theorem checkBank_good {α : Type} {region : α → RegionContent} {b : Bank α} (hw : b.written = true)
    (hc : b.crc = bankCrc b.count (region b.content)) : checkBank region b = .good := by
  simp [checkBank, hw, hc]

/-- A completed write leaves its bank good. -/
@[simp] theorem checkBank_bankWritten {α : Type} (region : α → RegionContent) (i : BankId) (count : Nat) (x : α)
    (b : Banks α) : checkBank region (bankGet (bankWritten region i count x b) i) = .good := by
  cases i <;> exact checkBank_good rfl rfl

/-- A wrong CRC is never the right one. -/
theorem wrongCrc_ne (right free : BitVec 16) : wrongCrc right free ≠ right := by
  unfold wrongCrc
  split
  · intro h
    have := congrArg BitVec.toNat h
    simp [BitVec.toNat_add] at this
    omega
  · assumption

/-- A write cut short leaves its bank not good, whatever its free CRC. -/
@[simp] theorem checkBank_bankSpoilt {α : Type} (region : α → RegionContent) (i : BankId) (draw : Nat) (torn : α → α)
    (b : Banks α) : checkBank region (bankGet (bankSpoilt region i draw torn b) i) = .bad := by
  cases i <;> simp [bankSpoilt, bankSet, bankGet, checkBank, wrongCrc_ne]

/-- Bank 0 supplies a region whose bank 1 was never written. -/
theorem newerGood_bank0 {α : Type} {region : α → RegionContent} {b : Banks α} (h : checkBank region b.bank0 = .good)
    (hn : b.bank1.written = false) :
    newerGood region b = some .bank0 := by
  have h' : checkBank region b.bank1 = .neverWritten := by simp [checkBank, hn]
  simp [newerGood, h, h']

/-- Bank 1 supplies a region whose bank 0 was never written. -/
theorem newerGood_bank1 {α : Type} {region : α → RegionContent} {b : Banks α} (h : checkBank region b.bank1 = .good)
    (hn : b.bank0.written = false) :
    newerGood region b = some .bank1 := by
  have h' : checkBank region b.bank0 = .neverWritten := by simp [checkBank, hn]
  simp [newerGood, h, h']

/-- A write cut short (R194). -/
@[simp] theorem tearWrite_frame (s : State) :
    (tearWrite s).pending = s.pending ∧ (tearWrite s).now = s.now ∧ (tearWrite s).power = s.power ∧
    (tearWrite s).clock = s.clock ∧ (tearWrite s).mdc = s.mdc ∧ (tearWrite s).siu = s.siu ∧
    (tearWrite s).gmu = s.gmu ∧ (tearWrite s).plu = s.plu ∧ (tearWrite s).evu = s.evu ∧ (tearWrite s).eeu = s.eeu ∧
    (tearWrite s).svu = s.svu ∧ (tearWrite s).rts.cal = s.rts.cal ∧
    (tearWrite s).rts.pendingSave = s.rts.pendingSave ∧ (tearWrite s).rts.failed = s.rts.failed ∧
    (tearWrite s).rts.token = s.rts.token ∧ (tearWrite s).lnc = s.lnc := by
  simp only [tearWrite]
  (repeat' split) <;> simp

/-- A waiting write begins (R194). -/
@[simp] theorem beginWrite_frame (s : State) :
    (beginWrite s).pending = s.pending ∧ (beginWrite s).now = s.now ∧ (beginWrite s).draws = s.draws ∧
    (beginWrite s).power = s.power ∧ (beginWrite s).clock = s.clock ∧ (beginWrite s).store = s.store ∧
    (beginWrite s).mdc = s.mdc ∧ (beginWrite s).siu = s.siu ∧ (beginWrite s).gmu = s.gmu ∧
    (beginWrite s).plu = s.plu ∧ (beginWrite s).evu = s.evu ∧ (beginWrite s).eeu = s.eeu ∧
    (beginWrite s).svu.loaded = s.svu.loaded ∧ (beginWrite s).svu.meters = s.svu.meters ∧
    (beginWrite s).svu.fuelRem = s.svu.fuelRem ∧ (beginWrite s).svu.payloadRem = s.svu.payloadRem ∧
    (beginWrite s).svu.slewRem = s.svu.slewRem ∧ (beginWrite s).svu.sums = s.svu.sums ∧
    (beginWrite s).svu.dayMark = s.svu.dayMark ∧ (beginWrite s).svu.items = s.svu.items ∧
    (beginWrite s).svu.summary = s.svu.summary ∧ (beginWrite s).svu.metersLost = s.svu.metersLost ∧
    (beginWrite s).svu.saveTimer = s.svu.saveTimer ∧ (beginWrite s).svu.reminderTimer = s.svu.reminderTimer ∧
    (beginWrite s).rts.cal = s.rts.cal ∧ (beginWrite s).rts.failed = s.rts.failed ∧
    (beginWrite s).rts.token = s.rts.token ∧ (beginWrite s).lnc = s.lnc := by
  simp only [beginWrite]
  (repeat' split) <;> simp

/-- FENCE_DATA_LOST cleared (R86). -/
@[simp] theorem clearDataLost_frame (b : Bool) (s : State) :
    (clearDataLost b s).pending = s.pending ∧ (clearDataLost b s).now = s.now ∧ (clearDataLost b s).draws = s.draws ∧
    (clearDataLost b s).power = s.power ∧ (clearDataLost b s).clock = s.clock ∧ (clearDataLost b s).store = s.store ∧
    (clearDataLost b s).mdc.mode = s.mdc.mode ∧ (clearDataLost b s).mdc.cause = s.mdc.cause ∧
    (clearDataLost b s).mdc.keyState = s.mdc.keyState ∧ (clearDataLost b s).mdc.lockout = s.mdc.lockout ∧
    (clearDataLost b s).mdc.calStatus = s.mdc.calStatus ∧ (clearDataLost b s).mdc.stSilence = s.mdc.stSilence ∧
    (clearDataLost b s).mdc.resetPending = s.mdc.resetPending ∧ (clearDataLost b s).mdc.resetWait = s.mdc.resetWait ∧
    (clearDataLost b s).siu = s.siu ∧ (clearDataLost b s).gmu = s.gmu ∧ (clearDataLost b s).plu = s.plu ∧
    (clearDataLost b s).evu.fences = s.evu.fences ∧ (clearDataLost b s).evu.levers = s.evu.levers ∧
    (clearDataLost b s).evu.grant = s.evu.grant ∧ (clearDataLost b s).evu.refresh = s.evu.refresh ∧
    (clearDataLost b s).evu.outstanding = s.evu.outstanding ∧
    (clearDataLost b s).evu.unconfirmed = s.evu.unconfirmed ∧ (clearDataLost b s).eeu = s.eeu ∧
    (clearDataLost b s).svu = s.svu ∧ (clearDataLost b s).rts.cal = s.rts.cal ∧
    (clearDataLost b s).rts.inFlight = s.rts.inFlight ∧ (clearDataLost b s).rts.failed = s.rts.failed ∧
    (clearDataLost b s).rts.token = s.rts.token ∧ (clearDataLost b s).lnc = s.lnc := by
  simp only [clearDataLost]
  (repeat' split) <;> simp

/-- A fence set committed (R101). -/
@[simp] theorem commitFences_frame (n : Fin 4) (e : FenceSet) (s : State) :
    (commitFences n e s).pending = s.pending ∧ (commitFences n e s).now = s.now ∧
    (commitFences n e s).draws = s.draws ∧ (commitFences n e s).power = s.power ∧
    (commitFences n e s).clock = s.clock ∧ (commitFences n e s).store = s.store ∧ (commitFences n e s).mdc = s.mdc ∧
    (commitFences n e s).siu = s.siu ∧ (commitFences n e s).gmu = s.gmu ∧ (commitFences n e s).plu = s.plu ∧
    (commitFences n e s).evu.dataLost = s.evu.dataLost ∧ (commitFences n e s).evu.levers = s.evu.levers ∧
    (commitFences n e s).evu.grant = s.evu.grant ∧ (commitFences n e s).evu.refresh = s.evu.refresh ∧
    (commitFences n e s).evu.outstanding = s.evu.outstanding ∧
    (commitFences n e s).evu.unconfirmed = s.evu.unconfirmed ∧ (commitFences n e s).eeu = s.eeu ∧
    (commitFences n e s).svu = s.svu ∧ (commitFences n e s).rts = s.rts ∧ (commitFences n e s).lnc = s.lnc := by
  simp only [commitFences]
  (repeat' split) <;> simp

/-- An item committed (R176). -/
@[simp] theorem commitItem_frame (k : Fin 32) (c : Option ItemDef) (a : Bool) (b : Bool) (s : State) :
    (commitItem k c a b s).pending = s.pending ∧ (commitItem k c a b s).now = s.now ∧
    (commitItem k c a b s).draws = s.draws ∧ (commitItem k c a b s).power = s.power ∧
    (commitItem k c a b s).clock = s.clock ∧ (commitItem k c a b s).store = s.store ∧
    (commitItem k c a b s).mdc = s.mdc ∧ (commitItem k c a b s).siu = s.siu ∧ (commitItem k c a b s).gmu = s.gmu ∧
    (commitItem k c a b s).plu = s.plu ∧ (commitItem k c a b s).evu.fences = s.evu.fences ∧
    (commitItem k c a b s).evu.dataLost = s.evu.dataLost ∧ (commitItem k c a b s).evu.levers = s.evu.levers ∧
    (commitItem k c a b s).evu.grant = s.evu.grant ∧ (commitItem k c a b s).evu.refresh = s.evu.refresh ∧
    (commitItem k c a b s).evu.outstanding = s.evu.outstanding ∧
    (commitItem k c a b s).evu.unconfirmed = s.evu.unconfirmed ∧ (commitItem k c a b s).eeu = s.eeu ∧
    (commitItem k c a b s).svu.loaded = s.svu.loaded ∧ (commitItem k c a b s).svu.meters = s.svu.meters ∧
    (commitItem k c a b s).svu.fuelRem = s.svu.fuelRem ∧ (commitItem k c a b s).svu.payloadRem = s.svu.payloadRem ∧
    (commitItem k c a b s).svu.slewRem = s.svu.slewRem ∧ (commitItem k c a b s).svu.sums = s.svu.sums ∧
    (commitItem k c a b s).svu.dayMark = s.svu.dayMark ∧ (commitItem k c a b s).svu.metersLost = s.svu.metersLost ∧
    (commitItem k c a b s).svu.saveTimer = s.svu.saveTimer ∧
    (commitItem k c a b s).svu.reminderTimer = s.svu.reminderTimer ∧
    (commitItem k c a b s).svu.entrySaveBegun = s.svu.entrySaveBegun ∧ (commitItem k c a b s).rts = s.rts ∧
    (commitItem k c a b s).lnc.ctlA = s.lnc.ctlA ∧ (commitItem k c a b s).lnc.ctlB = s.lnc.ctlB ∧
    (commitItem k c a b s).lnc.ctlS = s.lnc.ctlS ∧ (commitItem k c a b s).lnc.rateA = s.lnc.rateA ∧
    (commitItem k c a b s).lnc.rateB = s.lnc.rateB ∧ (commitItem k c a b s).lnc.rateS = s.lnc.rateS ∧
    (commitItem k c a b s).lnc.txGrant = s.lnc.txGrant ∧ (commitItem k c a b s).lnc.txReq1 = s.lnc.txReq1 ∧
    (commitItem k c a b s).lnc.txReq2 = s.lnc.txReq2 ∧ (commitItem k c a b s).lnc.txPose = s.lnc.txPose ∧
    (commitItem k c a b s).lnc.replies = s.lnc.replies ∧ (commitItem k c a b s).lnc.half = s.lnc.half ∧
    (commitItem k c a b s).lnc.lastNotice = s.lnc.lastNotice ∧ (commitItem k c a b s).lnc.pvcTimer = s.lnc.pvcTimer ∧
    (commitItem k c a b s).lnc.pvcSilent = s.lnc.pvcSilent ∧
    (commitItem k c a b s).lnc.poseReport = s.lnc.poseReport ∧ (commitItem k c a b s).lnc.latch = s.lnc.latch ∧
    (commitItem k c a b s).lnc.commandCrc = s.lnc.commandCrc ∧
    (commitItem k c a b s).lnc.commandDropped = s.lnc.commandDropped := by
  simp only [commitItem]
  (repeat' split) <;> simp

/-- A calibration block committed (R101). -/
@[simp] theorem commitCalibration_frame (c : Calibration) (s : State) :
    (commitCalibration c s).pending = s.pending ∧ (commitCalibration c s).now = s.now ∧
    (commitCalibration c s).draws = s.draws ∧ (commitCalibration c s).power = s.power ∧
    (commitCalibration c s).clock = s.clock ∧ (commitCalibration c s).store = s.store ∧
    (commitCalibration c s).mdc.mode = s.mdc.mode ∧ (commitCalibration c s).mdc.cause = s.mdc.cause ∧
    (commitCalibration c s).mdc.keyState = s.mdc.keyState ∧ (commitCalibration c s).mdc.lockout = s.mdc.lockout ∧
    (commitCalibration c s).mdc.stSilence = s.mdc.stSilence ∧
    (commitCalibration c s).mdc.resetPending = s.mdc.resetPending ∧
    (commitCalibration c s).mdc.sleepWait = s.mdc.sleepWait ∧
    (commitCalibration c s).mdc.resetWait = s.mdc.resetWait ∧ (commitCalibration c s).siu = s.siu ∧
    (commitCalibration c s).gmu = s.gmu ∧ (commitCalibration c s).plu = s.plu ∧
    (commitCalibration c s).evu.fences = s.evu.fences ∧ (commitCalibration c s).evu.dataLost = s.evu.dataLost ∧
    (commitCalibration c s).evu.levers = s.evu.levers ∧ (commitCalibration c s).evu.grant = s.evu.grant ∧
    (commitCalibration c s).evu.refresh = s.evu.refresh ∧
    (commitCalibration c s).evu.outstanding = s.evu.outstanding ∧
    (commitCalibration c s).evu.unconfirmed = s.evu.unconfirmed ∧
    (commitCalibration c s).eeu.accumulator = s.eeu.accumulator ∧
    (commitCalibration c s).eeu.average = s.eeu.average ∧ (commitCalibration c s).eeu.joinHold = s.eeu.joinHold ∧
    (commitCalibration c s).eeu.leaveHold = s.eeu.leaveHold ∧ (commitCalibration c s).eeu.ladder = s.eeu.ladder ∧
    (commitCalibration c s).eeu.autoIdle = s.eeu.autoIdle ∧
    (commitCalibration c s).eeu.lockoutTimer = s.eeu.lockoutTimer ∧
    (commitCalibration c s).eeu.shutdownDelay = s.eeu.shutdownDelay ∧
    (commitCalibration c s).eeu.countdown = s.eeu.countdown ∧ (commitCalibration c s).eeu.idleHold = s.eeu.idleHold ∧
    (commitCalibration c s).eeu.pumpDemand = s.eeu.pumpDemand ∧ (commitCalibration c s).eeu.oilTemp = s.eeu.oilTemp ∧
    (commitCalibration c s).eeu.warmup = s.eeu.warmup ∧ (commitCalibration c s).eeu.effective = s.eeu.effective ∧
    (commitCalibration c s).eeu.limit = s.eeu.limit ∧ (commitCalibration c s).eeu.fuelRem = s.eeu.fuelRem ∧
    (commitCalibration c s).eeu.fuelTimer = s.eeu.fuelTimer ∧
    (commitCalibration c s).eeu.feedTimer = s.eeu.feedTimer ∧ (commitCalibration c s).eeu.settings = s.eeu.settings ∧
    (commitCalibration c s).svu = s.svu ∧ (commitCalibration c s).rts.pendingSave = s.rts.pendingSave ∧
    (commitCalibration c s).rts.inFlight = s.rts.inFlight ∧ (commitCalibration c s).rts.failed = s.rts.failed ∧
    (commitCalibration c s).rts.token = s.rts.token ∧ (commitCalibration c s).lnc.ctlA = s.lnc.ctlA ∧
    (commitCalibration c s).lnc.ctlB = s.lnc.ctlB ∧ (commitCalibration c s).lnc.ctlS = s.lnc.ctlS ∧
    (commitCalibration c s).lnc.rateA = s.lnc.rateA ∧ (commitCalibration c s).lnc.rateB = s.lnc.rateB ∧
    (commitCalibration c s).lnc.rateS = s.lnc.rateS ∧ (commitCalibration c s).lnc.txGrant = s.lnc.txGrant ∧
    (commitCalibration c s).lnc.txReq1 = s.lnc.txReq1 ∧ (commitCalibration c s).lnc.txReq2 = s.lnc.txReq2 ∧
    (commitCalibration c s).lnc.txPose = s.lnc.txPose ∧ (commitCalibration c s).lnc.replies = s.lnc.replies ∧
    (commitCalibration c s).lnc.half = s.lnc.half ∧ (commitCalibration c s).lnc.lastNotice = s.lnc.lastNotice ∧
    (commitCalibration c s).lnc.pvcTimer = s.lnc.pvcTimer ∧ (commitCalibration c s).lnc.pvcSilent = s.lnc.pvcSilent ∧
    (commitCalibration c s).lnc.poseReport = s.lnc.poseReport ∧
    (commitCalibration c s).lnc.commandCrc = s.lnc.commandCrc ∧
    (commitCalibration c s).lnc.commandDropped = s.lnc.commandDropped := by
  simp only [commitCalibration]
  (repeat' split) <;> simp

/-- The committed subject live (R101). -/
@[simp] theorem takeCommitted_frame (x : Staged) (s : State) :
    (takeCommitted x s).pending = s.pending ∧ (takeCommitted x s).now = s.now ∧ (takeCommitted x s).draws = s.draws ∧
    (takeCommitted x s).power = s.power ∧ (takeCommitted x s).clock = s.clock ∧ (takeCommitted x s).store = s.store ∧
    (takeCommitted x s).mdc.mode = s.mdc.mode ∧ (takeCommitted x s).mdc.cause = s.mdc.cause ∧
    (takeCommitted x s).mdc.keyState = s.mdc.keyState ∧ (takeCommitted x s).mdc.lockout = s.mdc.lockout ∧
    (takeCommitted x s).mdc.stSilence = s.mdc.stSilence ∧ (takeCommitted x s).mdc.resetPending = s.mdc.resetPending ∧
    (takeCommitted x s).mdc.sleepWait = s.mdc.sleepWait ∧ (takeCommitted x s).mdc.resetWait = s.mdc.resetWait ∧
    (takeCommitted x s).siu = s.siu ∧ (takeCommitted x s).gmu = s.gmu ∧ (takeCommitted x s).plu = s.plu ∧
    (takeCommitted x s).evu.dataLost = s.evu.dataLost ∧ (takeCommitted x s).evu.levers = s.evu.levers ∧
    (takeCommitted x s).evu.grant = s.evu.grant ∧ (takeCommitted x s).evu.refresh = s.evu.refresh ∧
    (takeCommitted x s).evu.outstanding = s.evu.outstanding ∧
    (takeCommitted x s).evu.unconfirmed = s.evu.unconfirmed ∧
    (takeCommitted x s).eeu.accumulator = s.eeu.accumulator ∧ (takeCommitted x s).eeu.average = s.eeu.average ∧
    (takeCommitted x s).eeu.joinHold = s.eeu.joinHold ∧ (takeCommitted x s).eeu.leaveHold = s.eeu.leaveHold ∧
    (takeCommitted x s).eeu.ladder = s.eeu.ladder ∧ (takeCommitted x s).eeu.autoIdle = s.eeu.autoIdle ∧
    (takeCommitted x s).eeu.lockoutTimer = s.eeu.lockoutTimer ∧
    (takeCommitted x s).eeu.shutdownDelay = s.eeu.shutdownDelay ∧
    (takeCommitted x s).eeu.countdown = s.eeu.countdown ∧ (takeCommitted x s).eeu.idleHold = s.eeu.idleHold ∧
    (takeCommitted x s).eeu.pumpDemand = s.eeu.pumpDemand ∧ (takeCommitted x s).eeu.oilTemp = s.eeu.oilTemp ∧
    (takeCommitted x s).eeu.warmup = s.eeu.warmup ∧ (takeCommitted x s).eeu.effective = s.eeu.effective ∧
    (takeCommitted x s).eeu.limit = s.eeu.limit ∧ (takeCommitted x s).eeu.fuelRem = s.eeu.fuelRem ∧
    (takeCommitted x s).eeu.fuelTimer = s.eeu.fuelTimer ∧ (takeCommitted x s).eeu.feedTimer = s.eeu.feedTimer ∧
    (takeCommitted x s).eeu.settings = s.eeu.settings ∧ (takeCommitted x s).svu.loaded = s.svu.loaded ∧
    (takeCommitted x s).svu.meters = s.svu.meters ∧ (takeCommitted x s).svu.fuelRem = s.svu.fuelRem ∧
    (takeCommitted x s).svu.payloadRem = s.svu.payloadRem ∧ (takeCommitted x s).svu.slewRem = s.svu.slewRem ∧
    (takeCommitted x s).svu.sums = s.svu.sums ∧ (takeCommitted x s).svu.dayMark = s.svu.dayMark ∧
    (takeCommitted x s).svu.metersLost = s.svu.metersLost ∧ (takeCommitted x s).svu.saveTimer = s.svu.saveTimer ∧
    (takeCommitted x s).svu.reminderTimer = s.svu.reminderTimer ∧
    (takeCommitted x s).svu.entrySaveBegun = s.svu.entrySaveBegun ∧
    (takeCommitted x s).rts.pendingSave = s.rts.pendingSave ∧ (takeCommitted x s).rts.inFlight = s.rts.inFlight ∧
    (takeCommitted x s).rts.failed = s.rts.failed ∧ (takeCommitted x s).rts.token = s.rts.token ∧
    (takeCommitted x s).lnc.ctlA = s.lnc.ctlA ∧ (takeCommitted x s).lnc.ctlB = s.lnc.ctlB ∧
    (takeCommitted x s).lnc.ctlS = s.lnc.ctlS ∧ (takeCommitted x s).lnc.rateA = s.lnc.rateA ∧
    (takeCommitted x s).lnc.rateB = s.lnc.rateB ∧ (takeCommitted x s).lnc.rateS = s.lnc.rateS ∧
    (takeCommitted x s).lnc.txGrant = s.lnc.txGrant ∧ (takeCommitted x s).lnc.txReq1 = s.lnc.txReq1 ∧
    (takeCommitted x s).lnc.txReq2 = s.lnc.txReq2 ∧ (takeCommitted x s).lnc.txPose = s.lnc.txPose ∧
    (takeCommitted x s).lnc.replies = s.lnc.replies ∧ (takeCommitted x s).lnc.half = s.lnc.half ∧
    (takeCommitted x s).lnc.lastNotice = s.lnc.lastNotice ∧ (takeCommitted x s).lnc.pvcTimer = s.lnc.pvcTimer ∧
    (takeCommitted x s).lnc.pvcSilent = s.lnc.pvcSilent ∧ (takeCommitted x s).lnc.poseReport = s.lnc.poseReport ∧
    (takeCommitted x s).lnc.commandCrc = s.lnc.commandCrc ∧
    (takeCommitted x s).lnc.commandDropped = s.lnc.commandDropped := by
  simp only [takeCommitted]
  (repeat' split) <;> simp

/-- A commit that clears FENCE_DATA_LOST (R101). -/
@[simp] theorem commitClears_frame (c : Commit) (s : State) :
    (commitClears c s).pending = s.pending ∧ (commitClears c s).now = s.now ∧ (commitClears c s).draws = s.draws ∧
    (commitClears c s).power = s.power ∧ (commitClears c s).clock = s.clock ∧ (commitClears c s).store = s.store ∧
    (commitClears c s).mdc.mode = s.mdc.mode ∧ (commitClears c s).mdc.cause = s.mdc.cause ∧
    (commitClears c s).mdc.keyState = s.mdc.keyState ∧ (commitClears c s).mdc.lockout = s.mdc.lockout ∧
    (commitClears c s).mdc.calStatus = s.mdc.calStatus ∧ (commitClears c s).mdc.stSilence = s.mdc.stSilence ∧
    (commitClears c s).mdc.resetPending = s.mdc.resetPending ∧ (commitClears c s).mdc.resetWait = s.mdc.resetWait ∧
    (commitClears c s).siu = s.siu ∧ (commitClears c s).gmu = s.gmu ∧ (commitClears c s).plu = s.plu ∧
    (commitClears c s).evu.fences = s.evu.fences ∧ (commitClears c s).evu.levers = s.evu.levers ∧
    (commitClears c s).evu.grant = s.evu.grant ∧ (commitClears c s).evu.refresh = s.evu.refresh ∧
    (commitClears c s).evu.outstanding = s.evu.outstanding ∧ (commitClears c s).evu.unconfirmed = s.evu.unconfirmed ∧
    (commitClears c s).eeu = s.eeu ∧ (commitClears c s).svu = s.svu ∧ (commitClears c s).rts.cal = s.rts.cal ∧
    (commitClears c s).rts.inFlight = s.rts.inFlight ∧ (commitClears c s).rts.failed = s.rts.failed ∧
    (commitClears c s).rts.token = s.rts.token ∧ (commitClears c s).lnc = s.lnc := by
  simp only [commitClears]
  (repeat' split) <;> simp

/-- The commit ends. -/
@[simp] theorem endCommit_frame (s : State) :
    (endCommit s).pending = s.pending ∧ (endCommit s).now = s.now ∧ (endCommit s).draws = s.draws ∧
    (endCommit s).power = s.power ∧ (endCommit s).clock = s.clock ∧ (endCommit s).store = s.store ∧
    (endCommit s).mdc = s.mdc ∧ (endCommit s).siu = s.siu ∧ (endCommit s).gmu = s.gmu ∧ (endCommit s).plu = s.plu ∧
    (endCommit s).evu = s.evu ∧ (endCommit s).eeu = s.eeu ∧ (endCommit s).svu = s.svu ∧
    (endCommit s).rts.cal = s.rts.cal ∧ (endCommit s).rts.pendingSave = s.rts.pendingSave ∧
    (endCommit s).rts.inFlight = s.rts.inFlight ∧ (endCommit s).rts.failed = s.rts.failed ∧
    (endCommit s).lnc = s.lnc := by
  simp [endCommit]

/-- A commit answered (R101). -/
@[simp] theorem answerCommit_frame (c : Commit) (s : State) :
    (answerCommit c s).pending = s.pending ∧ (answerCommit c s).now = s.now ∧ (answerCommit c s).draws = s.draws ∧
    (answerCommit c s).power = s.power ∧ (answerCommit c s).clock = s.clock ∧ (answerCommit c s).store = s.store ∧
    (answerCommit c s).mdc = s.mdc ∧ (answerCommit c s).siu = s.siu ∧ (answerCommit c s).gmu = s.gmu ∧
    (answerCommit c s).plu = s.plu ∧ (answerCommit c s).evu = s.evu ∧ (answerCommit c s).eeu = s.eeu ∧
    (answerCommit c s).svu = s.svu ∧ (answerCommit c s).rts.cal = s.rts.cal ∧
    (answerCommit c s).rts.pendingSave = s.rts.pendingSave ∧ (answerCommit c s).rts.inFlight = s.rts.inFlight ∧
    (answerCommit c s).rts.failed = s.rts.failed ∧ (answerCommit c s).lnc.ctlA = s.lnc.ctlA ∧
    (answerCommit c s).lnc.ctlB = s.lnc.ctlB ∧ (answerCommit c s).lnc.ctlS = s.lnc.ctlS ∧
    (answerCommit c s).lnc.rateA = s.lnc.rateA ∧ (answerCommit c s).lnc.rateB = s.lnc.rateB ∧
    (answerCommit c s).lnc.rateS = s.lnc.rateS ∧ (answerCommit c s).lnc.txGrant = s.lnc.txGrant ∧
    (answerCommit c s).lnc.txReq1 = s.lnc.txReq1 ∧ (answerCommit c s).lnc.txReq2 = s.lnc.txReq2 ∧
    (answerCommit c s).lnc.txPose = s.lnc.txPose ∧ (answerCommit c s).lnc.lastNotice = s.lnc.lastNotice ∧
    (answerCommit c s).lnc.pvcTimer = s.lnc.pvcTimer ∧ (answerCommit c s).lnc.pvcSilent = s.lnc.pvcSilent ∧
    (answerCommit c s).lnc.poseReport = s.lnc.poseReport ∧ (answerCommit c s).lnc.latch = s.lnc.latch ∧
    (answerCommit c s).lnc.commandCrc = s.lnc.commandCrc ∧
    (answerCommit c s).lnc.commandDropped = s.lnc.commandDropped := by
  simp only [answerCommit]
  (repeat' split) <;> simp

/-- A failed commit answered (R102). -/
@[simp] theorem failCommit_frame (c : Commit) (s : State) :
    (failCommit c s).pending = s.pending ∧ (failCommit c s).now = s.now ∧ (failCommit c s).draws = s.draws ∧
    (failCommit c s).power = s.power ∧ (failCommit c s).clock = s.clock ∧ (failCommit c s).store = s.store ∧
    (failCommit c s).mdc = s.mdc ∧ (failCommit c s).siu = s.siu ∧ (failCommit c s).gmu = s.gmu ∧
    (failCommit c s).plu = s.plu ∧ (failCommit c s).evu = s.evu ∧ (failCommit c s).eeu = s.eeu ∧
    (failCommit c s).svu = s.svu ∧ (failCommit c s).rts.cal = s.rts.cal ∧
    (failCommit c s).rts.pendingSave = s.rts.pendingSave ∧ (failCommit c s).rts.inFlight = s.rts.inFlight ∧
    (failCommit c s).rts.failed = s.rts.failed ∧ (failCommit c s).lnc.ctlA = s.lnc.ctlA ∧
    (failCommit c s).lnc.ctlB = s.lnc.ctlB ∧ (failCommit c s).lnc.ctlS = s.lnc.ctlS ∧
    (failCommit c s).lnc.rateA = s.lnc.rateA ∧ (failCommit c s).lnc.rateB = s.lnc.rateB ∧
    (failCommit c s).lnc.rateS = s.lnc.rateS ∧ (failCommit c s).lnc.txGrant = s.lnc.txGrant ∧
    (failCommit c s).lnc.txReq1 = s.lnc.txReq1 ∧ (failCommit c s).lnc.txReq2 = s.lnc.txReq2 ∧
    (failCommit c s).lnc.txPose = s.lnc.txPose ∧ (failCommit c s).lnc.lastNotice = s.lnc.lastNotice ∧
    (failCommit c s).lnc.pvcTimer = s.lnc.pvcTimer ∧ (failCommit c s).lnc.pvcSilent = s.lnc.pvcSilent ∧
    (failCommit c s).lnc.poseReport = s.lnc.poseReport ∧ (failCommit c s).lnc.latch = s.lnc.latch ∧
    (failCommit c s).lnc.commandCrc = s.lnc.commandCrc ∧
    (failCommit c s).lnc.commandDropped = s.lnc.commandDropped := by
  simp [failCommit]

/-- A failed write (R195). -/
@[simp] theorem failWrite_frame (w : RegionWrite) (s : State) :
    (failWrite w s).pending = s.pending ∧ (failWrite w s).now = s.now ∧ (failWrite w s).power = s.power ∧
    (failWrite w s).clock = s.clock ∧ (failWrite w s).mdc = s.mdc ∧ (failWrite w s).siu = s.siu ∧
    (failWrite w s).gmu = s.gmu ∧ (failWrite w s).plu = s.plu ∧ (failWrite w s).evu = s.evu ∧
    (failWrite w s).eeu = s.eeu ∧ (failWrite w s).svu = s.svu ∧ (failWrite w s).rts.cal = s.rts.cal ∧
    (failWrite w s).rts.pendingSave = s.rts.pendingSave ∧ (failWrite w s).rts.inFlight = s.rts.inFlight ∧
    (failWrite w s).rts.token = s.rts.token ∧ (failWrite w s).lnc.ctlA = s.lnc.ctlA ∧
    (failWrite w s).lnc.ctlB = s.lnc.ctlB ∧ (failWrite w s).lnc.ctlS = s.lnc.ctlS ∧
    (failWrite w s).lnc.rateA = s.lnc.rateA ∧ (failWrite w s).lnc.rateB = s.lnc.rateB ∧
    (failWrite w s).lnc.rateS = s.lnc.rateS ∧ (failWrite w s).lnc.txGrant = s.lnc.txGrant ∧
    (failWrite w s).lnc.txReq1 = s.lnc.txReq1 ∧ (failWrite w s).lnc.txReq2 = s.lnc.txReq2 ∧
    (failWrite w s).lnc.txPose = s.lnc.txPose ∧ (failWrite w s).lnc.replies = s.lnc.replies ∧
    (failWrite w s).lnc.half = s.lnc.half ∧ (failWrite w s).lnc.lastNotice = s.lnc.lastNotice ∧
    (failWrite w s).lnc.pvcTimer = s.lnc.pvcTimer ∧ (failWrite w s).lnc.pvcSilent = s.lnc.pvcSilent ∧
    (failWrite w s).lnc.poseReport = s.lnc.poseReport ∧ (failWrite w s).lnc.latch = s.lnc.latch ∧
    (failWrite w s).lnc.commandCrc = s.lnc.commandCrc ∧
    (failWrite w s).lnc.commandDropped = s.lnc.commandDropped := by
  simp [failWrite]

/-- A completed write (R194). -/
@[simp] theorem completeWrite_frame (w : RegionWrite) (s : State) :
    (completeWrite w s).pending = s.pending ∧ (completeWrite w s).now = s.now ∧ (completeWrite w s).draws = s.draws ∧
    (completeWrite w s).power = s.power ∧ (completeWrite w s).clock = s.clock ∧ (completeWrite w s).mdc = s.mdc ∧
    (completeWrite w s).siu = s.siu ∧ (completeWrite w s).gmu = s.gmu ∧ (completeWrite w s).plu = s.plu ∧
    (completeWrite w s).evu = s.evu ∧ (completeWrite w s).eeu = s.eeu ∧ (completeWrite w s).svu = s.svu ∧
    (completeWrite w s).rts.cal = s.rts.cal ∧ (completeWrite w s).rts.pendingSave = s.rts.pendingSave ∧
    (completeWrite w s).rts.inFlight = s.rts.inFlight ∧ (completeWrite w s).rts.token = s.rts.token ∧
    (completeWrite w s).lnc = s.lnc := by
  simp [completeWrite]

end Sys2Proof.Laws
end

