-- ==== Sys2Proof/Laws/Event.lean ====
section
/-! SUPPORT. What the end of an event and a change of part mode change, one lemma each. -/

namespace Sys2Proof.Laws

open Sys2Proof Sys2Proof.Machine

/-- A changed grant issued (R118). -/
@[simp] theorem issueGrant_frame (s : State) :
    (issueGrant s).pending = s.pending ∧ (issueGrant s).now = s.now ∧ (issueGrant s).draws = s.draws ∧
    (issueGrant s).power = s.power ∧ (issueGrant s).clock = s.clock ∧ (issueGrant s).store = s.store ∧
    (issueGrant s).mdc = s.mdc ∧ (issueGrant s).siu = s.siu ∧ (issueGrant s).gmu = s.gmu ∧
    (issueGrant s).plu = s.plu ∧ (issueGrant s).evu.fences = s.evu.fences ∧
    (issueGrant s).evu.dataLost = s.evu.dataLost ∧ (issueGrant s).evu.caps = s.evu.caps ∧
    (issueGrant s).evu.levers = s.evu.levers ∧ (issueGrant s).evu.unconfirmed = s.evu.unconfirmed ∧
    (issueGrant s).evu.monitors = s.evu.monitors ∧ (issueGrant s).eeu = s.eeu ∧ (issueGrant s).svu = s.svu ∧
    (issueGrant s).rts = s.rts ∧ (issueGrant s).lnc.ctlA = s.lnc.ctlA ∧ (issueGrant s).lnc.ctlB = s.lnc.ctlB ∧
    (issueGrant s).lnc.ctlS = s.lnc.ctlS ∧ (issueGrant s).lnc.rateA = s.lnc.rateA ∧
    (issueGrant s).lnc.rateB = s.lnc.rateB ∧ (issueGrant s).lnc.rateS = s.lnc.rateS ∧
    (issueGrant s).lnc.txReq1 = s.lnc.txReq1 ∧ (issueGrant s).lnc.txReq2 = s.lnc.txReq2 ∧
    (issueGrant s).lnc.txPose = s.lnc.txPose ∧ (issueGrant s).lnc.replies = s.lnc.replies ∧
    (issueGrant s).lnc.half = s.lnc.half ∧ (issueGrant s).lnc.notices = s.lnc.notices ∧
    (issueGrant s).lnc.lastNotice = s.lnc.lastNotice ∧ (issueGrant s).lnc.pvcTimer = s.lnc.pvcTimer ∧
    (issueGrant s).lnc.pvcSilent = s.lnc.pvcSilent ∧ (issueGrant s).lnc.poseReport = s.lnc.poseReport ∧
    (issueGrant s).lnc.latch = s.lnc.latch ∧ (issueGrant s).lnc.commandCrc = s.lnc.commandCrc ∧
    (issueGrant s).lnc.commandDropped = s.lnc.commandDropped ∧
    (issueGrant s).lnc.noticeOverflow = s.lnc.noticeOverflow := by
  simp only [issueGrant]
  (repeat' split) <;> simp

/-- The end of an event changes the engine set, the grant record, the latch, the write in flight and the link queues only; every other register is as the event left it. -/
@[simp] theorem endEvent_frame (s0 : State) (s : State) :
    (endEvent s0 s).pending = s.pending ∧ (endEvent s0 s).now = s.now ∧ (endEvent s0 s).draws = s.draws ∧
    (endEvent s0 s).power = s.power ∧ (endEvent s0 s).clock = s.clock ∧ (endEvent s0 s).store = s.store ∧
    (endEvent s0 s).mdc.mode = s.mdc.mode ∧ (endEvent s0 s).mdc.cause = s.mdc.cause ∧
    (endEvent s0 s).mdc.keyState = s.mdc.keyState ∧ (endEvent s0 s).mdc.lockout = s.mdc.lockout ∧
    (endEvent s0 s).mdc.calStatus = s.mdc.calStatus ∧ (endEvent s0 s).mdc.stSilence = s.mdc.stSilence ∧
    (endEvent s0 s).mdc.resetPending = s.mdc.resetPending ∧ (endEvent s0 s).siu = s.siu ∧
    (endEvent s0 s).gmu = s.gmu ∧ (endEvent s0 s).plu = s.plu ∧ (endEvent s0 s).evu.fences = s.evu.fences ∧
    (endEvent s0 s).evu.dataLost = s.evu.dataLost ∧ (endEvent s0 s).evu.caps = s.evu.caps ∧
    (endEvent s0 s).evu.levers = s.evu.levers ∧ (endEvent s0 s).evu.unconfirmed = s.evu.unconfirmed ∧
    (endEvent s0 s).evu.monitors = s.evu.monitors ∧ (endEvent s0 s).eeu.engineCount = s.eeu.engineCount ∧
    (endEvent s0 s).eeu.accumulator = s.eeu.accumulator ∧ (endEvent s0 s).eeu.average = s.eeu.average ∧
    (endEvent s0 s).eeu.idleHold = s.eeu.idleHold ∧ (endEvent s0 s).eeu.pumpDemand = s.eeu.pumpDemand ∧
    (endEvent s0 s).eeu.oilTemp = s.eeu.oilTemp ∧ (endEvent s0 s).eeu.warmup = s.eeu.warmup ∧
    (endEvent s0 s).eeu.fuelRem = s.eeu.fuelRem ∧ (endEvent s0 s).eeu.fuelTimer = s.eeu.fuelTimer ∧
    (endEvent s0 s).eeu.feedTimer = s.eeu.feedTimer ∧ (endEvent s0 s).eeu.settings = s.eeu.settings ∧
    (endEvent s0 s).svu.loaded = s.svu.loaded ∧ (endEvent s0 s).svu.meters = s.svu.meters ∧
    (endEvent s0 s).svu.fuelRem = s.svu.fuelRem ∧ (endEvent s0 s).svu.payloadRem = s.svu.payloadRem ∧
    (endEvent s0 s).svu.slewRem = s.svu.slewRem ∧ (endEvent s0 s).svu.sums = s.svu.sums ∧
    (endEvent s0 s).svu.dayMark = s.svu.dayMark ∧ (endEvent s0 s).svu.items = s.svu.items ∧
    (endEvent s0 s).svu.summary = s.svu.summary ∧ (endEvent s0 s).svu.metersLost = s.svu.metersLost ∧
    (endEvent s0 s).svu.saveTimer = s.svu.saveTimer ∧ (endEvent s0 s).svu.reminderTimer = s.svu.reminderTimer ∧
    (endEvent s0 s).rts.cal = s.rts.cal ∧ (endEvent s0 s).rts.failed = s.rts.failed ∧
    (endEvent s0 s).rts.token = s.rts.token ∧ (endEvent s0 s).lnc.ctlS = s.lnc.ctlS ∧
    (endEvent s0 s).lnc.rateA = s.lnc.rateA ∧ (endEvent s0 s).lnc.rateB = s.lnc.rateB ∧
    (endEvent s0 s).lnc.rateS = s.lnc.rateS ∧ (endEvent s0 s).lnc.half = s.lnc.half ∧
    (endEvent s0 s).lnc.pvcTimer = s.lnc.pvcTimer ∧ (endEvent s0 s).lnc.pvcSilent = s.lnc.pvcSilent ∧
    (endEvent s0 s).lnc.poseReport = s.lnc.poseReport ∧ (endEvent s0 s).lnc.commandCrc = s.lnc.commandCrc ∧
    (endEvent s0 s).lnc.commandDropped = s.lnc.commandDropped := by
  simp [endEvent]

/-- The EVU at a change of mode (R114). -/
@[simp] theorem capsMode_frame (m : PartMode) (s : State) :
    (capsMode m s).pending = s.pending ∧ (capsMode m s).now = s.now ∧ (capsMode m s).draws = s.draws ∧
    (capsMode m s).power = s.power ∧ (capsMode m s).clock = s.clock ∧ (capsMode m s).store = s.store ∧
    (capsMode m s).mdc = s.mdc ∧ (capsMode m s).siu = s.siu ∧ (capsMode m s).gmu = s.gmu ∧
    (capsMode m s).plu = s.plu ∧ (capsMode m s).evu.fences = s.evu.fences ∧
    (capsMode m s).evu.dataLost = s.evu.dataLost ∧ (capsMode m s).evu.levers = s.evu.levers ∧
    (capsMode m s).evu.grant = s.evu.grant ∧ (capsMode m s).evu.refresh = s.evu.refresh ∧
    (capsMode m s).evu.outstanding = s.evu.outstanding ∧ (capsMode m s).evu.unconfirmed = s.evu.unconfirmed ∧
    (capsMode m s).eeu = s.eeu ∧ (capsMode m s).svu = s.svu ∧ (capsMode m s).rts = s.rts ∧
    (capsMode m s).lnc = s.lnc := by
  simp only [capsMode]
  (repeat' split) <;> simp

/-- The PLU at entry to CLOSING (R64). -/
@[simp] theorem closePayload_frame (s : State) :
    (closePayload s).pending = s.pending ∧ (closePayload s).now = s.now ∧ (closePayload s).draws = s.draws ∧
    (closePayload s).power = s.power ∧ (closePayload s).clock = s.clock ∧ (closePayload s).store = s.store ∧
    (closePayload s).mdc.mode = s.mdc.mode ∧ (closePayload s).mdc.cause = s.mdc.cause ∧
    (closePayload s).mdc.keyState = s.mdc.keyState ∧ (closePayload s).mdc.lockout = s.mdc.lockout ∧
    (closePayload s).mdc.calStatus = s.mdc.calStatus ∧ (closePayload s).mdc.stSilence = s.mdc.stSilence ∧
    (closePayload s).mdc.resetPending = s.mdc.resetPending ∧ (closePayload s).mdc.resetWait = s.mdc.resetWait ∧
    (closePayload s).siu = s.siu ∧ (closePayload s).gmu = s.gmu ∧ (closePayload s).evu.fences = s.evu.fences ∧
    (closePayload s).evu.dataLost = s.evu.dataLost ∧ (closePayload s).evu.levers = s.evu.levers ∧
    (closePayload s).evu.grant = s.evu.grant ∧ (closePayload s).evu.refresh = s.evu.refresh ∧
    (closePayload s).evu.outstanding = s.evu.outstanding ∧ (closePayload s).evu.unconfirmed = s.evu.unconfirmed ∧
    (closePayload s).eeu = s.eeu ∧ (closePayload s).svu.loaded = s.svu.loaded ∧
    (closePayload s).svu.dayMark = s.svu.dayMark ∧ (closePayload s).svu.metersLost = s.svu.metersLost ∧
    (closePayload s).svu.saveTimer = s.svu.saveTimer ∧ (closePayload s).svu.reminderTimer = s.svu.reminderTimer ∧
    (closePayload s).svu.entrySaveBegun = s.svu.entrySaveBegun ∧ (closePayload s).rts.cal = s.rts.cal ∧
    (closePayload s).rts.inFlight = s.rts.inFlight ∧ (closePayload s).rts.failed = s.rts.failed ∧
    (closePayload s).rts.token = s.rts.token ∧ (closePayload s).lnc.ctlA = s.lnc.ctlA ∧
    (closePayload s).lnc.ctlB = s.lnc.ctlB ∧ (closePayload s).lnc.ctlS = s.lnc.ctlS ∧
    (closePayload s).lnc.rateA = s.lnc.rateA ∧ (closePayload s).lnc.rateB = s.lnc.rateB ∧
    (closePayload s).lnc.rateS = s.lnc.rateS ∧ (closePayload s).lnc.txGrant = s.lnc.txGrant ∧
    (closePayload s).lnc.txReq1 = s.lnc.txReq1 ∧ (closePayload s).lnc.txReq2 = s.lnc.txReq2 ∧
    (closePayload s).lnc.txPose = s.lnc.txPose ∧ (closePayload s).lnc.replies = s.lnc.replies ∧
    (closePayload s).lnc.half = s.lnc.half ∧ (closePayload s).lnc.lastNotice = s.lnc.lastNotice ∧
    (closePayload s).lnc.pvcTimer = s.lnc.pvcTimer ∧ (closePayload s).lnc.pvcSilent = s.lnc.pvcSilent ∧
    (closePayload s).lnc.poseReport = s.lnc.poseReport ∧ (closePayload s).lnc.latch = s.lnc.latch ∧
    (closePayload s).lnc.commandCrc = s.lnc.commandCrc ∧
    (closePayload s).lnc.commandDropped = s.lnc.commandDropped := by
  simp [closePayload]

/-- The SVU at entry to CLOSING (R10). -/
@[simp] theorem closeService_frame (s : State) :
    (closeService s).pending = s.pending ∧ (closeService s).now = s.now ∧ (closeService s).draws = s.draws ∧
    (closeService s).power = s.power ∧ (closeService s).clock = s.clock ∧ (closeService s).store = s.store ∧
    (closeService s).mdc.mode = s.mdc.mode ∧ (closeService s).mdc.cause = s.mdc.cause ∧
    (closeService s).mdc.keyState = s.mdc.keyState ∧ (closeService s).mdc.lockout = s.mdc.lockout ∧
    (closeService s).mdc.calStatus = s.mdc.calStatus ∧ (closeService s).mdc.stSilence = s.mdc.stSilence ∧
    (closeService s).mdc.resetPending = s.mdc.resetPending ∧ (closeService s).mdc.resetWait = s.mdc.resetWait ∧
    (closeService s).siu = s.siu ∧ (closeService s).gmu = s.gmu ∧ (closeService s).plu = s.plu ∧
    (closeService s).evu = s.evu ∧ (closeService s).eeu = s.eeu ∧ (closeService s).svu.loaded = s.svu.loaded ∧
    (closeService s).svu.meters = s.svu.meters ∧ (closeService s).svu.fuelRem = s.svu.fuelRem ∧
    (closeService s).svu.payloadRem = s.svu.payloadRem ∧ (closeService s).svu.slewRem = s.svu.slewRem ∧
    (closeService s).svu.sums = s.svu.sums ∧ (closeService s).svu.dayMark = s.svu.dayMark ∧
    (closeService s).svu.items = s.svu.items ∧ (closeService s).svu.summary = s.svu.summary ∧
    (closeService s).svu.metersLost = s.svu.metersLost ∧ (closeService s).rts.cal = s.rts.cal ∧
    (closeService s).rts.inFlight = s.rts.inFlight ∧ (closeService s).rts.failed = s.rts.failed ∧
    (closeService s).rts.token = s.rts.token ∧ (closeService s).lnc = s.lnc := by
  simp [closeService]

/-- The entry actions of CLOSING (R10). -/
@[simp] theorem closeBlocks_frame (s : State) :
    (closeBlocks s).pending = s.pending ∧ (closeBlocks s).now = s.now ∧ (closeBlocks s).draws = s.draws ∧
    (closeBlocks s).power = s.power ∧ (closeBlocks s).clock = s.clock ∧ (closeBlocks s).store = s.store ∧
    (closeBlocks s).mdc.mode = s.mdc.mode ∧ (closeBlocks s).mdc.cause = s.mdc.cause ∧
    (closeBlocks s).mdc.keyState = s.mdc.keyState ∧ (closeBlocks s).mdc.lockout = s.mdc.lockout ∧
    (closeBlocks s).mdc.calStatus = s.mdc.calStatus ∧ (closeBlocks s).mdc.stSilence = s.mdc.stSilence ∧
    (closeBlocks s).mdc.resetPending = s.mdc.resetPending ∧ (closeBlocks s).mdc.resetWait = s.mdc.resetWait ∧
    (closeBlocks s).siu = s.siu ∧ (closeBlocks s).gmu = s.gmu ∧ (closeBlocks s).evu.fences = s.evu.fences ∧
    (closeBlocks s).evu.dataLost = s.evu.dataLost ∧ (closeBlocks s).evu.levers = s.evu.levers ∧
    (closeBlocks s).evu.grant = s.evu.grant ∧ (closeBlocks s).evu.refresh = s.evu.refresh ∧
    (closeBlocks s).evu.outstanding = s.evu.outstanding ∧ (closeBlocks s).evu.unconfirmed = s.evu.unconfirmed ∧
    (closeBlocks s).eeu.engineCount = s.eeu.engineCount ∧ (closeBlocks s).eeu.accumulator = s.eeu.accumulator ∧
    (closeBlocks s).eeu.average = s.eeu.average ∧ (closeBlocks s).eeu.joinHold = s.eeu.joinHold ∧
    (closeBlocks s).eeu.leaveHold = s.eeu.leaveHold ∧ (closeBlocks s).eeu.pumpDemand = s.eeu.pumpDemand ∧
    (closeBlocks s).eeu.oilTemp = s.eeu.oilTemp ∧ (closeBlocks s).eeu.warmup = s.eeu.warmup ∧
    (closeBlocks s).eeu.effective = s.eeu.effective ∧ (closeBlocks s).eeu.limit = s.eeu.limit ∧
    (closeBlocks s).eeu.fuelRem = s.eeu.fuelRem ∧ (closeBlocks s).eeu.fuelTimer = s.eeu.fuelTimer ∧
    (closeBlocks s).eeu.feedTimer = s.eeu.feedTimer ∧ (closeBlocks s).eeu.settings = s.eeu.settings ∧
    (closeBlocks s).svu.loaded = s.svu.loaded ∧ (closeBlocks s).svu.dayMark = s.svu.dayMark ∧
    (closeBlocks s).svu.metersLost = s.svu.metersLost ∧ (closeBlocks s).rts.cal = s.rts.cal ∧
    (closeBlocks s).rts.inFlight = s.rts.inFlight ∧ (closeBlocks s).rts.failed = s.rts.failed ∧
    (closeBlocks s).lnc.ctlA = s.lnc.ctlA ∧ (closeBlocks s).lnc.ctlB = s.lnc.ctlB ∧
    (closeBlocks s).lnc.ctlS = s.lnc.ctlS ∧ (closeBlocks s).lnc.rateA = s.lnc.rateA ∧
    (closeBlocks s).lnc.rateB = s.lnc.rateB ∧ (closeBlocks s).lnc.rateS = s.lnc.rateS ∧
    (closeBlocks s).lnc.txGrant = s.lnc.txGrant ∧ (closeBlocks s).lnc.txReq1 = s.lnc.txReq1 ∧
    (closeBlocks s).lnc.txReq2 = s.lnc.txReq2 ∧ (closeBlocks s).lnc.txPose = s.lnc.txPose ∧
    (closeBlocks s).lnc.replies = s.lnc.replies ∧ (closeBlocks s).lnc.lastNotice = s.lnc.lastNotice ∧
    (closeBlocks s).lnc.pvcTimer = s.lnc.pvcTimer ∧ (closeBlocks s).lnc.pvcSilent = s.lnc.pvcSilent ∧
    (closeBlocks s).lnc.poseReport = s.lnc.poseReport ∧ (closeBlocks s).lnc.latch = s.lnc.latch ∧
    (closeBlocks s).lnc.commandCrc = s.lnc.commandCrc ∧
    (closeBlocks s).lnc.commandDropped = s.lnc.commandDropped := by
  simp [closeBlocks]

/-- The blocks at a change of mode (R7, R10). -/
@[simp] theorem blocksMode_frame (m : PartMode) (s : State) :
    (blocksMode m s).pending = s.pending ∧ (blocksMode m s).now = s.now ∧ (blocksMode m s).draws = s.draws ∧
    (blocksMode m s).power = s.power ∧ (blocksMode m s).clock = s.clock ∧ (blocksMode m s).store = s.store ∧
    (blocksMode m s).mdc.mode = s.mdc.mode ∧ (blocksMode m s).mdc.cause = s.mdc.cause ∧
    (blocksMode m s).mdc.keyState = s.mdc.keyState ∧ (blocksMode m s).mdc.lockout = s.mdc.lockout ∧
    (blocksMode m s).mdc.calStatus = s.mdc.calStatus ∧ (blocksMode m s).mdc.stSilence = s.mdc.stSilence ∧
    (blocksMode m s).mdc.resetPending = s.mdc.resetPending ∧ (blocksMode m s).mdc.resetWait = s.mdc.resetWait ∧
    (blocksMode m s).siu = s.siu ∧ (blocksMode m s).gmu = s.gmu ∧ (blocksMode m s).evu.fences = s.evu.fences ∧
    (blocksMode m s).evu.dataLost = s.evu.dataLost ∧ (blocksMode m s).evu.levers = s.evu.levers ∧
    (blocksMode m s).evu.grant = s.evu.grant ∧ (blocksMode m s).evu.refresh = s.evu.refresh ∧
    (blocksMode m s).evu.outstanding = s.evu.outstanding ∧ (blocksMode m s).evu.unconfirmed = s.evu.unconfirmed ∧
    (blocksMode m s).eeu.engineCount = s.eeu.engineCount ∧ (blocksMode m s).eeu.accumulator = s.eeu.accumulator ∧
    (blocksMode m s).eeu.average = s.eeu.average ∧ (blocksMode m s).eeu.joinHold = s.eeu.joinHold ∧
    (blocksMode m s).eeu.leaveHold = s.eeu.leaveHold ∧ (blocksMode m s).eeu.pumpDemand = s.eeu.pumpDemand ∧
    (blocksMode m s).eeu.oilTemp = s.eeu.oilTemp ∧ (blocksMode m s).eeu.warmup = s.eeu.warmup ∧
    (blocksMode m s).eeu.effective = s.eeu.effective ∧ (blocksMode m s).eeu.limit = s.eeu.limit ∧
    (blocksMode m s).eeu.fuelRem = s.eeu.fuelRem ∧ (blocksMode m s).eeu.fuelTimer = s.eeu.fuelTimer ∧
    (blocksMode m s).eeu.feedTimer = s.eeu.feedTimer ∧ (blocksMode m s).eeu.settings = s.eeu.settings ∧
    (blocksMode m s).svu.loaded = s.svu.loaded ∧ (blocksMode m s).svu.dayMark = s.svu.dayMark ∧
    (blocksMode m s).svu.metersLost = s.svu.metersLost ∧ (blocksMode m s).rts.cal = s.rts.cal ∧
    (blocksMode m s).rts.inFlight = s.rts.inFlight ∧ (blocksMode m s).rts.failed = s.rts.failed ∧
    (blocksMode m s).lnc.ctlA = s.lnc.ctlA ∧ (blocksMode m s).lnc.ctlB = s.lnc.ctlB ∧
    (blocksMode m s).lnc.ctlS = s.lnc.ctlS ∧ (blocksMode m s).lnc.rateA = s.lnc.rateA ∧
    (blocksMode m s).lnc.rateB = s.lnc.rateB ∧ (blocksMode m s).lnc.rateS = s.lnc.rateS ∧
    (blocksMode m s).lnc.txGrant = s.lnc.txGrant ∧ (blocksMode m s).lnc.txReq1 = s.lnc.txReq1 ∧
    (blocksMode m s).lnc.txReq2 = s.lnc.txReq2 ∧ (blocksMode m s).lnc.txPose = s.lnc.txPose ∧
    (blocksMode m s).lnc.replies = s.lnc.replies ∧ (blocksMode m s).lnc.lastNotice = s.lnc.lastNotice ∧
    (blocksMode m s).lnc.pvcTimer = s.lnc.pvcTimer ∧ (blocksMode m s).lnc.pvcSilent = s.lnc.pvcSilent ∧
    (blocksMode m s).lnc.poseReport = s.lnc.poseReport ∧ (blocksMode m s).lnc.latch = s.lnc.latch ∧
    (blocksMode m s).lnc.commandCrc = s.lnc.commandCrc ∧
    (blocksMode m s).lnc.commandDropped = s.lnc.commandDropped := by
  simp only [blocksMode]
  (repeat' split) <;> simp

/-- The part mode set (R2). -/
@[simp] theorem setMode_frame (m : PartMode) (s : State) :
    (setMode m s).pending = s.pending ∧ (setMode m s).now = s.now ∧ (setMode m s).draws = s.draws ∧
    (setMode m s).power = s.power ∧ (setMode m s).clock = s.clock ∧ (setMode m s).store = s.store ∧
    (setMode m s).mdc.cause = s.mdc.cause ∧ (setMode m s).mdc.keyState = s.mdc.keyState ∧
    (setMode m s).mdc.lockout = s.mdc.lockout ∧ (setMode m s).mdc.calStatus = s.mdc.calStatus ∧
    (setMode m s).mdc.resetPending = s.mdc.resetPending ∧ (setMode m s).mdc.sleepWait = s.mdc.sleepWait ∧
    (setMode m s).mdc.resetWait = s.mdc.resetWait ∧ (setMode m s).siu = s.siu ∧ (setMode m s).gmu = s.gmu ∧
    (setMode m s).plu = s.plu ∧ (setMode m s).evu = s.evu ∧ (setMode m s).eeu = s.eeu ∧ (setMode m s).svu = s.svu ∧
    (setMode m s).rts = s.rts ∧ (setMode m s).lnc.ctlA = s.lnc.ctlA ∧ (setMode m s).lnc.ctlB = s.lnc.ctlB ∧
    (setMode m s).lnc.ctlS = s.lnc.ctlS ∧ (setMode m s).lnc.rateA = s.lnc.rateA ∧
    (setMode m s).lnc.rateB = s.lnc.rateB ∧ (setMode m s).lnc.rateS = s.lnc.rateS ∧
    (setMode m s).lnc.txGrant = s.lnc.txGrant ∧ (setMode m s).lnc.txReq1 = s.lnc.txReq1 ∧
    (setMode m s).lnc.txReq2 = s.lnc.txReq2 ∧ (setMode m s).lnc.txPose = s.lnc.txPose ∧
    (setMode m s).lnc.replies = s.lnc.replies ∧ (setMode m s).lnc.half = s.lnc.half ∧
    (setMode m s).lnc.lastNotice = s.lnc.lastNotice ∧ (setMode m s).lnc.pvcTimer = s.lnc.pvcTimer ∧
    (setMode m s).lnc.pvcSilent = s.lnc.pvcSilent ∧ (setMode m s).lnc.poseReport = s.lnc.poseReport ∧
    (setMode m s).lnc.latch = s.lnc.latch ∧ (setMode m s).lnc.commandCrc = s.lnc.commandCrc ∧
    (setMode m s).lnc.commandDropped = s.lnc.commandDropped := by
  simp [setMode]

@[simp] theorem setMode_mdc (m : PartMode) (s : State) :
    (setMode m s).mdc.mode = m ∧ (setMode m s).mdc.stSilence = if m = .service then some s.now else none := by
  simp [setMode]

/-- A change of part mode (R2). -/
@[simp] theorem enterMode_frame (m : PartMode) (s : State) :
    (enterMode m s).pending = s.pending ∧ (enterMode m s).now = s.now ∧ (enterMode m s).draws = s.draws ∧
    (enterMode m s).power = s.power ∧ (enterMode m s).clock = s.clock ∧ (enterMode m s).store = s.store ∧
    (enterMode m s).mdc.cause = s.mdc.cause ∧ (enterMode m s).mdc.keyState = s.mdc.keyState ∧
    (enterMode m s).mdc.lockout = s.mdc.lockout ∧ (enterMode m s).mdc.calStatus = s.mdc.calStatus ∧
    (enterMode m s).mdc.resetPending = s.mdc.resetPending ∧ (enterMode m s).mdc.resetWait = s.mdc.resetWait ∧
    (enterMode m s).siu = s.siu ∧ (enterMode m s).gmu = s.gmu ∧ (enterMode m s).evu.fences = s.evu.fences ∧
    (enterMode m s).evu.dataLost = s.evu.dataLost ∧ (enterMode m s).evu.levers = s.evu.levers ∧
    (enterMode m s).evu.grant = s.evu.grant ∧ (enterMode m s).evu.refresh = s.evu.refresh ∧
    (enterMode m s).evu.outstanding = s.evu.outstanding ∧ (enterMode m s).evu.unconfirmed = s.evu.unconfirmed ∧
    (enterMode m s).eeu.engineCount = s.eeu.engineCount ∧ (enterMode m s).eeu.accumulator = s.eeu.accumulator ∧
    (enterMode m s).eeu.average = s.eeu.average ∧ (enterMode m s).eeu.joinHold = s.eeu.joinHold ∧
    (enterMode m s).eeu.leaveHold = s.eeu.leaveHold ∧ (enterMode m s).eeu.pumpDemand = s.eeu.pumpDemand ∧
    (enterMode m s).eeu.oilTemp = s.eeu.oilTemp ∧ (enterMode m s).eeu.warmup = s.eeu.warmup ∧
    (enterMode m s).eeu.effective = s.eeu.effective ∧ (enterMode m s).eeu.limit = s.eeu.limit ∧
    (enterMode m s).eeu.fuelRem = s.eeu.fuelRem ∧ (enterMode m s).eeu.fuelTimer = s.eeu.fuelTimer ∧
    (enterMode m s).eeu.feedTimer = s.eeu.feedTimer ∧ (enterMode m s).eeu.settings = s.eeu.settings ∧
    (enterMode m s).svu.loaded = s.svu.loaded ∧ (enterMode m s).svu.dayMark = s.svu.dayMark ∧
    (enterMode m s).svu.metersLost = s.svu.metersLost ∧ (enterMode m s).rts.cal = s.rts.cal ∧
    (enterMode m s).rts.inFlight = s.rts.inFlight ∧ (enterMode m s).rts.failed = s.rts.failed ∧
    (enterMode m s).lnc.ctlA = s.lnc.ctlA ∧ (enterMode m s).lnc.ctlB = s.lnc.ctlB ∧
    (enterMode m s).lnc.ctlS = s.lnc.ctlS ∧ (enterMode m s).lnc.rateA = s.lnc.rateA ∧
    (enterMode m s).lnc.rateB = s.lnc.rateB ∧ (enterMode m s).lnc.rateS = s.lnc.rateS ∧
    (enterMode m s).lnc.txGrant = s.lnc.txGrant ∧ (enterMode m s).lnc.txReq1 = s.lnc.txReq1 ∧
    (enterMode m s).lnc.txReq2 = s.lnc.txReq2 ∧ (enterMode m s).lnc.txPose = s.lnc.txPose ∧
    (enterMode m s).lnc.replies = s.lnc.replies ∧ (enterMode m s).lnc.lastNotice = s.lnc.lastNotice ∧
    (enterMode m s).lnc.pvcTimer = s.lnc.pvcTimer ∧ (enterMode m s).lnc.pvcSilent = s.lnc.pvcSilent ∧
    (enterMode m s).lnc.poseReport = s.lnc.poseReport ∧ (enterMode m s).lnc.latch = s.lnc.latch ∧
    (enterMode m s).lnc.commandCrc = s.lnc.commandCrc ∧
    (enterMode m s).lnc.commandDropped = s.lnc.commandDropped := by
  simp [enterMode]

@[simp] theorem enterMode_mdc (m : PartMode) (s : State) :
    (enterMode m s).mdc.mode = m ∧ (enterMode m s).mdc.stSilence = if m = .service then some s.now else none := by
  simp [enterMode]

/-- PVC_SILENT arises (R187). -/
@[simp] theorem raisePvcSilent_frame (s : State) :
    (raisePvcSilent s).pending = s.pending ∧ (raisePvcSilent s).now = s.now ∧ (raisePvcSilent s).draws = s.draws ∧
    (raisePvcSilent s).power = s.power ∧ (raisePvcSilent s).clock = s.clock ∧ (raisePvcSilent s).store = s.store ∧
    (raisePvcSilent s).mdc = s.mdc ∧ (raisePvcSilent s).siu = s.siu ∧ (raisePvcSilent s).gmu = s.gmu ∧
    (raisePvcSilent s).plu = s.plu ∧ (raisePvcSilent s).evu = s.evu ∧ (raisePvcSilent s).eeu = s.eeu ∧
    (raisePvcSilent s).svu = s.svu ∧ (raisePvcSilent s).rts = s.rts ∧ (raisePvcSilent s).lnc.ctlA = s.lnc.ctlA ∧
    (raisePvcSilent s).lnc.ctlB = s.lnc.ctlB ∧ (raisePvcSilent s).lnc.ctlS = s.lnc.ctlS ∧
    (raisePvcSilent s).lnc.rateA = s.lnc.rateA ∧ (raisePvcSilent s).lnc.rateB = s.lnc.rateB ∧
    (raisePvcSilent s).lnc.rateS = s.lnc.rateS ∧ (raisePvcSilent s).lnc.txGrant = s.lnc.txGrant ∧
    (raisePvcSilent s).lnc.txReq1 = s.lnc.txReq1 ∧ (raisePvcSilent s).lnc.txReq2 = s.lnc.txReq2 ∧
    (raisePvcSilent s).lnc.txPose = s.lnc.txPose ∧ (raisePvcSilent s).lnc.replies = s.lnc.replies ∧
    (raisePvcSilent s).lnc.half = s.lnc.half ∧ (raisePvcSilent s).lnc.lastNotice = s.lnc.lastNotice ∧
    (raisePvcSilent s).lnc.pvcTimer = s.lnc.pvcTimer ∧ (raisePvcSilent s).lnc.poseReport = s.lnc.poseReport ∧
    (raisePvcSilent s).lnc.latch = s.lnc.latch ∧ (raisePvcSilent s).lnc.commandCrc = s.lnc.commandCrc ∧
    (raisePvcSilent s).lnc.commandDropped = s.lnc.commandDropped := by
  simp [raisePvcSilent]

/-- The save and reminder timers start (R165, R172). -/
@[simp] theorem startServiceTimers_frame (s : State) :
    (startServiceTimers s).pending = s.pending ∧ (startServiceTimers s).now = s.now ∧
    (startServiceTimers s).draws = s.draws ∧ (startServiceTimers s).power = s.power ∧
    (startServiceTimers s).clock = s.clock ∧ (startServiceTimers s).store = s.store ∧
    (startServiceTimers s).mdc = s.mdc ∧ (startServiceTimers s).siu = s.siu ∧ (startServiceTimers s).gmu = s.gmu ∧
    (startServiceTimers s).plu = s.plu ∧ (startServiceTimers s).evu = s.evu ∧ (startServiceTimers s).eeu = s.eeu ∧
    (startServiceTimers s).svu.loaded = s.svu.loaded ∧ (startServiceTimers s).svu.meters = s.svu.meters ∧
    (startServiceTimers s).svu.fuelRem = s.svu.fuelRem ∧ (startServiceTimers s).svu.payloadRem = s.svu.payloadRem ∧
    (startServiceTimers s).svu.slewRem = s.svu.slewRem ∧ (startServiceTimers s).svu.sums = s.svu.sums ∧
    (startServiceTimers s).svu.dayMark = s.svu.dayMark ∧ (startServiceTimers s).svu.items = s.svu.items ∧
    (startServiceTimers s).svu.summary = s.svu.summary ∧ (startServiceTimers s).svu.metersLost = s.svu.metersLost ∧
    (startServiceTimers s).svu.entrySaveBegun = s.svu.entrySaveBegun ∧ (startServiceTimers s).rts = s.rts ∧
    (startServiceTimers s).lnc = s.lnc := by
  simp [startServiceTimers]

/-- The end of a write at the MDC (R11, R14). -/
@[simp] theorem reportWriteEnd_frame (s : State) :
    (reportWriteEnd s).pending = s.pending ∧ (reportWriteEnd s).now = s.now ∧ (reportWriteEnd s).draws = s.draws ∧
    (reportWriteEnd s).power = s.power ∧ (reportWriteEnd s).clock = s.clock ∧ (reportWriteEnd s).store = s.store ∧
    (reportWriteEnd s).mdc.mode = s.mdc.mode ∧ (reportWriteEnd s).mdc.cause = s.mdc.cause ∧
    (reportWriteEnd s).mdc.keyState = s.mdc.keyState ∧ (reportWriteEnd s).mdc.lockout = s.mdc.lockout ∧
    (reportWriteEnd s).mdc.calStatus = s.mdc.calStatus ∧ (reportWriteEnd s).mdc.stSilence = s.mdc.stSilence ∧
    (reportWriteEnd s).siu = s.siu ∧ (reportWriteEnd s).gmu = s.gmu ∧ (reportWriteEnd s).plu = s.plu ∧
    (reportWriteEnd s).evu = s.evu ∧ (reportWriteEnd s).eeu = s.eeu ∧ (reportWriteEnd s).svu = s.svu ∧
    (reportWriteEnd s).rts = s.rts ∧ (reportWriteEnd s).lnc = s.lnc := by
  simp only [reportWriteEnd]
  (repeat' split) <;> simp

end Sys2Proof.Laws
end

