-- ==== Sys2Proof/Tests/Slice0.lean ====
section
/-! SUPPORT. Tests. First the ill-formed commands that `Instr.wellFormed` refuses; then the manual's own tables and
worked cases (each test names its source) and frames written out byte by byte from R182; then single steps; and for
each obligation with hypotheses a witness, `test_<obligation>_applies`: concrete states and operands that meet the
hypotheses, clause by clause, at boundary values. -/

-- The kernel evaluates these tests one after another: side by side they need more memory than the check allows.
set_option Elab.async false

namespace Sys2Proof.Tests

open Sys2Proof Sys2Proof.Machine

/-! ### WellFormed smoke: one ill-formed command for each check -/

/-- Every ill-formed command of the list is refused, each by its own check. -/
theorem test_wellFormed_refuses :
    [ Instr.sensorSample .boomAng 8388608 0 0 false, .sensorSample .upperTilt 0 (-8388609) 0 false,
      .sensorSample .slewEnc 0 0 16 false, .pvcState 65536 0 0 0 false false, .pvcState 0 256 0 0 false false,
      .pvcState 0 0 216 0 false false, .pvcState 0 0 (-41) 0 false false, .pvcState 0 0 0 256 false false,
      .pvcLevers ⟨0, 0, 0, 0, 0, 0, 0, 256⟩, .pvcLevers ⟨256, 0, 0, 0, 0, 0, 0, 0⟩,
      .engineStatus .e1 256 0 0 0 0 false, .engineStatus .e1 0 65536 0 0 0 false,
      .engineStatus .e2 0 0 216 0 0 false, .engineStatus .e2 0 0 0 65536 0 false,
      .engineStatus .e2 0 0 0 0 256 false, .frameDiscarded .a 128 0 0, .frameDiscarded .a 0 16 0,
      .frameDiscarded .a 0 0 9, .frameDiscarded .b 40 5 8, .unknownCommand .cdt 256, .unknownCommand .cdt 2,
      .unknownCommand .cdt 36, .readFenceSet .tg 256, .readItem .tg 256, .tokenRequest .st 256, .stageSet .st 256,
      .stageItem .st 256, .fenceClear .st 256, .ackItem .cdt 256, .serviceDone .tg 256, .extendItem .st 256,
      .selectMode .cdt 256, .fenceWriteFirst .cdt 256 1 1 100 5, .fenceWriteFirst .cdt 0 256 1 100 5,
      .fenceWriteFirst .cdt 0 1 256 100 5, .fenceWriteFirst .cdt 0 1 1 65536 5, .fenceWriteFirst .cdt 0 1 1 100 256,
      .fenceWriteSecond .cdt 256 0 0, .fenceWriteSecond .cdt 0 65536 0, .fenceWriteSecond .cdt 0 0 65536,
      .fenceSector .cdt 256 1 0 0, .fenceSector .cdt 0 256 0 0, .fenceSector .cdt 0 1 65536 0,
      .fenceSector .cdt 0 1 0 65536, .itemWrite .tg 256 0, .itemWrite .tg 255 0, .itemWrite .tg 0 2147483648,
      .calWrite .st 256 0, .calWrite .st 0 (-2147483649), .commit .st 65536, .selectSet .cdt 256, .selectSet .cdt 4,
      .setGrade .cdt 32768 0 0, .setGrade .cdt 0 (-32769) 0, .setGrade .cdt 0 0 32768, .setGradeStop .cdt 256 0,
      .setGradeStop .cdt 0 65536, .meterWrite .st 256 0, .meterWrite .st 0 4294967296, .setClock .st 4294967296,
      .setIdle .cdt 256 0, .setIdle .cdt 0 256, .setTruckTarget .cdt 4294967296 ].all
      (fun i => !i.wellFormed) = true := by decide +kernel

/-- The values at the edges of the fields pass. -/
theorem test_wellFormed_accepts_edges :
    [ Instr.sensorSample .boomAng 8388607 (-8388608) 15 true, .pvcState 65535 255 215 255 true true,
      .pvcState 0 0 (-40) 0 false false, .frameDiscarded .b 40 5 7, .unknownCommand .cdt 255, .unknownCommand .cdt 0,
      .itemWrite .tg 254 (-2147483648), .calWrite .st 255 2147483647, .setClock .tg 4294967295,
      .setGrade .cdt (-32768) 32767 0 ].all Instr.wellFormed = true := by decide +kernel

/-! ### The manual's tables and worked cases -/

/-- The reference values of R39's table. -/
theorem test_scaledSin_table :
    [0, 300, 1500, 3000, 4500, 6000, 9000, -6000].map scaledSin = [0, 857, 4240, 8192, 11585, 14189, 16384, -14189] ∧
    [0, 300, 1500, 3000, 4500, 6000, 9000, -6000].map scaledCos = [16384, 16362, 15826, 14189, 11585, 8192, 0, 8192] := by
  decide +kernel

/-- The products of the pose worked case (section 3.9). -/
theorem test_unscale_worked_products :
    unscale (8200 * 14189) = 7101 ∧ unscale (8200 * 8192) = 4100 ∧ unscale (3800 * -14189) = -3291 ∧
    unscale 17491900 = 1068 ∧ unscale 41933400 = 2559 := by decide +kernel

/-- The calibration of the worked cases of sections 3.9 and 4.8. -/
def workedCal : Calibration :=
  ⟨#v[1200, 2500, 8200, 3800, 2100,
      3000, 3000, 3000, 3000, 3000, 3000, 3000, 3000,
      125000, 60000,
      700, 820, 930, 1010, 1070, 1100, 1090, 1030, 930,
      900000, 1450000, 2050000, 2700000, 3300000, 3850000, 4350000, 4800000, 5200000,
      -3500, 2, 1100, 1100,
      1800, 1700, 1500, 1200, 900, 700,
      25, 30, 600, 63, 250, 250, 250, 0]⟩

/-- The pose on a level frame and on a pitched one (section 3.9). -/
theorem test_pose_worked_cases :
    publishCoords (rawCoords workedCal 3000 (-6000) (-9000) 0) =
      { xp := 1200, zp := 2500, x1 := 8301, z1 := 6600, x3 := 10201, z3 := 1209, h := 6600, reach := 10201,
        depth := 1209 } ∧
    publishCoords (rawCoords workedCal 3000 (-6000) (-9000) 300) =
      { xp := 1068, zp := 2559, x1 := 8169, z1 := 6659, x3 := 10069, z3 := 1268, h := 6659, reach := 10069,
        depth := 1268 } := by decide +kernel

/-- The weigh sample of section 4.8, and the lever arm at 5200. -/
theorem test_weigh_worked_case :
    weigh workedCal 32000 3000 3000 9001 = { mass := 13613, overload := false } ∧
    interpolate (calLeverArm workedCal) (-4500) 1500 5200 = 1062 := by decide +kernel

/-- The ceiling of section 6.2's worked cases. -/
theorem test_ceiling_worked_case :
    [10400, 10950, 11900, 11999, 12000, 12200].map (fun h : Int => capAt (12000 - h) 1500 20) =
      [100, 76, 25, 20, 0, 0] := by decide +kernel

/-- The slew sectors of section 6.2's worked cases, from outside and from inside. -/
theorem test_sector_worked_cases :
    sectorApproach 7000 ⟨9000, 13500⟩ 3000 15 = { left := 71, right := 100 } ∧
    inSector 7000 ⟨9000, 13500⟩ = false ∧
    [500, 0, 35500].map (fun x : Int => (inSector x ⟨35000, 1000⟩, sectorHold x ⟨35000, 1000⟩ 15)) =
      [(true, { left := 15, right := 0 }), (true, { left := 15, right := 0 }), (true, { left := 0, right := 15 })] ∧
    inSector 1000 ⟨35000, 1000⟩ = false ∧ sectorApproach 1000 ⟨35000, 1000⟩ 3000 15 = { left := 100, right := 0 } := by
  decide +kernel

/-- The CRC-16 of R99 over the digits 1 to 9 is the published check value 0x29B1 of that polynomial and start. -/
theorem test_crc16_check_value :
    crc16 [0x31#8, 0x32#8, 0x33#8, 0x34#8, 0x35#8, 0x36#8, 0x37#8, 0x38#8, 0x39#8] = 0x29B1#16 := by decide +kernel

/-! ### Frames written out from R179, R182 and R183 -/

/-- SENSOR_SAMPLE of BOOM_ANG on link S: identifier 8·16+8, value 1 = -1, value 2 = 256, flag with counter 5. -/
theorem test_decode_sensorSample :
    decodeFrame .s 0x088 [0xFF, 0xFF, 0xFF, 0x00, 0x01, 0x00, 0x85] = .sensorSample .boomAng (-1) 256 5 true := by
  decide +kernel

/-- PVC_STATE: 1,000 kW, released, 60 °C (100 - 40), applied 19, group 2 engaged. -/
theorem test_decode_pvcState :
    decodeFrame .a 0x042 [0x03, 0xE8, 0x01, 0x64, 0x13, 0x02] = .pvcState 1000 1 60 19 false true := by decide +kernel

/-- PVC_LEVERS: eight demands in function order. -/
theorem test_decode_pvcLevers :
    decodeFrame .a 0x052 [1, 2, 3, 4, 5, 6, 7, 100] = .pvcLevers ⟨1, 2, 3, 4, 5, 6, 7, 100⟩ := by decide +kernel

/-- ENGINE_STATUS of E2: RUNNING, 1,700 rpm, -10 °C, fuel rate 850, load 55, no-stop. -/
theorem test_decode_engineStatus :
    decodeFrame .a 0x074 [0x02, 0x06, 0xA4, 0x1E, 0x03, 0x52, 0x37, 0x01] =
      .engineStatus .e2 2 1700 (-10) 850 55 true := by decide +kernel

/-- COMMANDs with their CRC-8 (0x88 and 0x6C, worked out apart from this model from R183's polynomial): TOKEN_REQUEST
ON_REQUEST of the CDT, METER_WRITE of the ST to meter 5 with 12,345; with another CRC byte the first is ignored, and
from a sensor node on link B it is discarded. -/
theorem test_decode_command :
    decodeFrame .b 0x285 [2, 2, 0, 0, 0, 0, 0, 0x88] = .tokenRequest .cdt 2 ∧
    decodeFrame .b 0x287 [31, 5, 0x00, 0x00, 0x30, 0x39, 0, 0x6C] = .meterWrite .st 5 12345 ∧
    decodeFrame .b 0x285 [2, 2, 0, 0, 0, 0, 0, 0x89] = .commandCrcError ∧
    decodeFrame .b 0x288 [2, 2, 0, 0, 0, 0, 0, 0x88] = .frameDiscarded .b 40 8 8 := by decide +kernel

/-- The CRC-8 of the digits 1 to 9 (polynomial 0x31, initial value 0) is the published check value 0xA2. -/
theorem test_crc8_check_value :
    [0x31#8, 0x32#8, 0x33#8, 0x34#8, 0x35#8, 0x36#8, 0x37#8, 0x38#8, 0x39#8].foldl crc8Byte 0 = 0xA2#8 := by
  decide +kernel

/-! ### States and single steps -/

/-- A reset of the State.reset part, or of one with some volatile state, gives State.reset but for what the store,
clock and supplies keep (R14). -/
theorem test_reset_is_a_reset :
    resetPart .powerOn { State.reset with
      rts.pendingSave := [.meters], evu.unconfirmed := true, gmu.pose.seq := 3, mdc.mode := .working } =
      State.reset := by decide +kernel

/-- The state after a command. -/
def after (i : Instr) (s : State) : State :=
  match exec i s with
  | .next t => t
  | .fault _ => s
  | .refused _ => s

/-- A part at work: WORKING, calibrated with the worked block, loaded, link controllers free, at part time 1,000 s. -/
def work : State :=
  { State.reset with
    now := 1000000
    clock := { time := some 800000000, mark := 999000 }
    mdc := { State.reset.mdc with mode := .working, calStatus := .valid, lockout := .released }
    svu := { Svu.reset with loaded := true, dayMark := some 800000000, saveTimer := some 640000
                            reminderTimer := some 100000 }
    rts.cal := workedCal
    lnc := { Lnc.reset (some 999500) 250 250 250 with poseReport := some 999900 } }

/-- The same part in another mode. -/
def inMode (m : PartMode) : State :=
  { work with mdc.mode := m, mdc.stSilence := if m = .service then some 970000 else none }

/-- A reading accepted 50 ms ago. -/
def validChannel (v1 v2 : Int) : ChannelRec :=
  { ChannelRec.reset with state := .valid, accepted := some ⟨v1, v2⟩, counter := some 3, acceptedAt := some 999950
                          markFrom := some 999950 }

/-- The level front of section 3.9 on all channels, a pose due. -/
def sensed : State :=
  { work with
    siu := { boomAng := validChannel 3000 0, stickAng := validChannel (-6000) 0, bucketAng := validChannel (-9000) 0
             upperTilt := validChannel 0 0, slewEnc := validChannel 17990 0, boomPress := validChannel 32000 3000 }
    gmu.poseTimer := some 999980
    gmu.rateMem := some ⟨⟨.valid, some 2940⟩, ⟨.stale, some (-6000)⟩, ⟨.valid, some (-9000)⟩, ⟨.valid, some (-18000)⟩⟩ }

/-- The pose of section 3.9 through the whole command, with rates of R49 (the slew's wrapped round the circle). -/
theorem test_pose_timer_publishes_worked_case :
    let p := (after .poseTimer sensed).gmu.pose
    p.seq = 1 ∧ p.plane = .valid ∧
    p.coords = some { xp := 1200, zp := 2500, x1 := 8301, z1 := 6600, x3 := 10201, z3 := 1209, h := 6600
                      reach := 10201, depth := 1209 } ∧
    (p.boomRate, p.stickRate, p.slewRate) = (some 3000, none, some (-500)) := by decide +kernel

/-- Fuel over one expiry (section 8.6): rates 1,200 and 850 from a remainder of 25,000 give 6 mL and 14,000. -/
def burning : State :=
  { work with
    eeu.slot1 := { State.reset.eeu.slot1 with state := .online, silence := some 999500
                                              status := some ⟨.running, 1700, 80, 1200, 50, false⟩ }
    eeu.slot2 := { State.reset.eeu.slot2 with state := .online, silence := some 999500
                                              status := some ⟨.running, 1700, 80, 850, 50, true⟩ }
    eeu.fuelRem := 25000, eeu.fuelTimer := some 999900, eeu.feedTimer := some 999000
    eeu.pumpDemand := some 50, eeu.oilTemp := some 95 }

theorem test_fuel_timer_worked_case :
    (after .fuelTimer burning).eeu.fuelRem = 14000 ∧ (after .fuelTimer burning).svu.fuelRem = 6 := by decide +kernel

/-- The engine oil item of section 9.8 one second before APPROACHING, and the second that brings it there. -/
def oilItem : Item :=
  { defn := { label := 7, meter := .engine1Run, interval := 1800000, lead := 72000, grace := 36000, lastDone := 10000000
              nextDue := 11800000, restriction := .powerEconomy }
    state := .ok, acked := false, extUsed := false, doneDate := none }

/-- The burning part with that item at index 4 and the meter at a value. -/
def withItem (i : Item) (m : Nat) : State :=
  { burning with svu.items := (Vector.replicate 32 none).set 4 (some i), svu.meters.engine1Run := m }

theorem test_item_worked_case :
    (itemAt (after .feedTimer (withItem oilItem 11727999)) 4).map (·.state) = some .approaching ∧
    ((itemAt (after (.extendItem .st 4) (withItem oilItem 11801200)) 4).map fun i => (i.state, i.defn.nextDue)) =
      some (.ok, 12250000) ∧
    ((itemAt (after (.serviceDone .tg 4) (withItem oilItem 12290000)) 4).map fun i => (i.state, i.defn.nextDue)) =
      some (.ok, 14090000) := by decide +kernel

/-- Days counted (section 9.8): a clock 3 days and 100 s past the day mark counts three days and moves the mark by
exactly those. -/
theorem test_calendar_worked_case :
    let t := after .clockSecond { work with clock.time := some 800259299 }
    t.svu.dayMark = some 800259200 ∧ t.svu.meters.calendar = 3 := by decide +kernel

/-- The acknowledgement of section 6.7: 19 takes 18 and 19, and the next report of 19 nothing more. -/
theorem test_acknowledge_worked_case :
    acknowledge [(18, 1000), (19, 1030), (20, 1060)] 19 = [(20, 1060)] ∧
    acknowledge [(20, 1060)] 19 = [(20, 1060)] ∧ acknowledge [(18, 1000), (19, 1030)] 16 = [(18, 1000), (19, 1030)] := by
  decide +kernel

/-- The power accumulator keeps a steady demand (R140): 16 times the demand stays, and a first demand adds itself. -/
theorem test_average_keeps_a_steady_demand :
    (after (.pvcState 1000 1 60 0 true true) { work with eeu.accumulator := 16000 }).eeu.average = 1000 ∧
    (after (.pvcState 4001 1 60 0 true true) work).eeu.accumulator = 4000 := by decide +kernel

/-- A command in START is refused, and a READ in START is answered (R4). -/
theorem test_start_answers_read_alone :
    (after (.readSettings .cdt) { State.reset with lnc.ctlB := some (.poseReport0 .reset) }).lnc.replies.map
      (fun r => (r.code, r.result, r.detail)) = [(1, .accepted, some 2)] ∧
    (after (.clearGrade .cdt) { State.reset with lnc.ctlB := some (.poseReport0 .reset) }).lnc.replies.map
      (fun r => (r.code, r.result)) = [(26, .refusedState)] := by decide +kernel

/-! ### Witnesses: the hypotheses of the obligations are met -/

theorem test_StepTakesTheFrontCommand_applies :
    { work with pending := [.clearGrade .cdt, .poseTimer] }.pending = Instr.clearGrade .cdt :: [.poseTimer] := rfl

/-- Nothing due; SLEEP due; a reset due; and marks that the next millisecond reaches exactly: a clock second asleep, a
notice's spacing, the end of loading, the end of a write. -/
theorem test_EmptyQueueLetsTimePass_applies :
    (work.pending = [] ∧ sleepDue work = false ∧ partResetDue work = false) ∧
    (let s := { inMode .closing with mdc.sleepWait := some 0 }
     s.pending = [] ∧ sleepDue s = true) ∧
    (let s := { work with mdc.resetWait := some 0 }
     s.pending = [] ∧ sleepDue s = false ∧ partResetDue s = true) ∧
    (let s := { inMode .sleep with clock.mark := 999001 }
     awake s = false ∧ markReached { s with now := s.now + 1 } .clockSecond = some true ∧
     markReached s .clockSecond = some false) ∧
    (let n : Notice := { kind := .modeChange, subject := 0, severity := .info, value := some 2, stamp := none }
     let s := { work with lnc.notices := [n], lnc.lastNotice := some 999991 }
     s.lnc.ctlB = none ∧ s.lnc.replies = [] ∧ s.lnc.txPose = [] ∧ s.lnc.notices ≠ [] ∧
     markReached { s with now := s.now + 1 } .noticeSpacingElapsed = some true) ∧
    (let s := { State.reset with now := 399 }
     sleepDue s = false ∧ partResetDue s = false ∧ awake s = true ∧ s.mdc.mode = .start ∧
     reached s.eeu.feedTimer 400 (s.now + 1) = true ∧ reached s.eeu.feedTimer 400 s.now = false) ∧
    (let w : RegionWrite := { content := .trucks [], bank := .bank0, count := 0, since := 999751, carriesCommit := false }
     ({ work with rts.inFlight := some w } : State).rts.inFlight = some w ∧ w.since + 250 ≤ work.now + 1) := by
  decide +kernel

/-- A pose timer not yet due, one millisecond before its mark; a command to a part in SLEEP and to one held in reset. -/
theorem test_CommandsOutOfPlaceChangeNothing_applies :
    markReached { work with gmu.poseTimer := some 999981 } .poseTimer = some false ∧
    markReached { sensed with now := 999999 } (.stalenessMark .boomAng) = some false ∧
    (awake (inMode .sleep) = false ∧ actsAsleep (.readStatus .st) = false) ∧
    (awake { work with power.resetLine := true } = false ∧ actsAsleep (.frameTransmit .b) = false) := by decide +kernel

/-- A waiting reply. -/
def aReply : Reply := { code := 26, result := .accepted, detail := none, dest := .cdt, content := [], sent := 0 }

/-- The part at work with `n` replies waiting behind a busy controller. -/
def replying (n : Nat) : State :=
  { work with lnc.replies := List.replicate n aReply, lnc.ctlB := some (.poseReport0 .reset) }

/-- In START with seven replies waiting; with eight. -/
theorem test_StartRefusesAndAFullQueueDrops_applies :
    (let s := { replying 7 with mdc.mode := .start }
     commandOf (.clearGrade .cdt) = some (.cdt, 26) ∧ awake s = true ∧ s.mdc.mode = .start ∧ s.lnc.replies.length < 8) ∧
    (awake (replying 8) = true ∧ 8 ≤ (replying 8).lnc.replies.length) := by decide +kernel

/-- A sender outside its role for every command that has roles; seven replies wait. -/
theorem test_SendersOutsideTheirRoleAreRefused_applies :
    (awake (replying 7) = true ∧ (replying 7).mdc.mode ≠ .start ∧ (replying 7).lnc.replies.length < 8) ∧
    [ Instr.stageItem .cdt 0, .itemWrite .cdt 0 0, .itemWriteClear .cdt, .setClock .cdt 0, .readCalibration .tg,
      .stageCal .tg, .calWrite .cdt 0 0, .lockFences .cdt, .unlockFences .tg, .enterService .cdt, .exitService .tg,
      .partReset .cdt, .engineReset .tg, .clearViolations .cdt, .extendItem .tg 0, .meterWrite .tg 0 0,
      .clearFaults .tg, .setGrade .st 0 0 0, .setGradeStop .tg 0 0, .clearGrade .st, .truckDone .tg, .idleHold .st,
      .ackItem .tg 0, .selectMode .st 1, .setIdle .tg 4 15, .setTruckTarget .st 0, .serviceDone .cdt 0 ].all
      (fun i => (commandOf i).isSome && senderRefused (replying 7) i) = true := by decide +kernel

/-- A claim on the token. -/
def claim (m : Master) (p : Policy) : Claim := { who := m, policy := p }

/-- The part at work, this master holding the token with this policy and something staged. -/
def editing (m : Master) (p : Policy) (x : Option Staged) : State :=
  { work with rts.token := { Token.reset with holder := some (claim m p), silence := some 970000, staging := x } }

/-- A fence set with one entry: a CEILING with an applicability sector at index 7. -/
def aSet : FenceSet :=
  (Vector.replicate 8 none).set 7 (some { shape := .planar .ceiling 12000 (some ⟨9000, 13500⟩), enabled := true
                                          margin := 1500, creep := 20 })

/-- The set staged in slot 3. -/
def stagedSet : Staged := .fenceSet 3 aSet

/-- A commit of the staged set in progress. -/
def committing3 (m : Master) (p : Policy) : State :=
  { editing m p (some stagedSet) with rts.token.commit := some { subject := stagedSet, who := m } }

/-- Not the holder; a commit in progress; the wrong subject staged, or none. -/
theorem test_EditChecksInOrder_applies :
    (let s := editing .tg .whenDone (some stagedSet)
     awake s = true ∧ s.mdc.mode ≠ .start ∧ s.lnc.replies.length < 8 ∧
     senderRefused s (.stageSet .cdt 0) = false ∧ editCommand (.stageSet .cdt 0) = true ∧ holds .cdt s = false) ∧
    (let s := committing3 .cdt .whenDone
     holds .cdt s = true ∧ s.rts.token.commit.isSome = true ∧ senderRefused s (.abandon .cdt) = false) ∧
    (let s := editing .st .onRequest (some stagedSet)
     holds .st s = true ∧ s.rts.token.commit = none ∧ subjectStaged s (.calWrite .st 0 0) = false ∧
     subjectStaged s (.itemWriteClear .st) = false ∧
     subjectStaged (editing .st .onRequest none) (.commit .st 0) = false) := by decide +kernel

theorem test_EveryResetGivesTheResetValues_applies :
    work.power.resetLine = false ∧
    (let s := { work with power.mainGood := false }
     s.power.mainGood = false ∧ s.power.resetLine = false) ∧
    (let s := { work with power.resetLine := true }
     s.power.resetLine = true ∧ s.power.mainGood = true) ∧
    (let s := { inMode .sleep with mdc.keyState := .off, power.keyTimer := some 999950 }
     keyDue .on s = true ∧ s.mdc.mode = .sleep) ∧
    partResetDue { work with mdc.resetWait := some 0 } = true := by decide +kernel

/-- A METERS write in flight. -/
def metersWrite (commit : Bool) : RegionWrite :=
  { content := if commit then .fences { FenceState.empty with sets := FenceState.empty.sets.set 3 aSet } else .meters .zero
    bank := .bank0, count := 0, since := 999750, carriesCommit := commit }

/-- The part writing. -/
def writing (commit : Bool) (s : State) : State := { s with rts.inFlight := some (metersWrite commit) }

theorem test_SupplyAndResetLineHoldThePart_applies :
    ((writing false work).power.mainGood = true ∧ (writing false work).power.resetLine = false ∧
      (writing false work).rts.inFlight = some (metersWrite false)) ∧
    work.rts.inFlight = none ∧
    (let s := { work with power.mainGood := false, power.resetLine := true }
     s.power.mainGood = false ∧ s.power.resetLine = true) := by decide +kernel

/-- A key level that has stood for exactly 50 ms. -/
def keyed (level old : KeyLevel) (m : PartMode) : State :=
  { inMode m with power.keyLevel := level, power.keyTimer := some 999950, mdc.keyState := old }

theorem test_KeyLevelsAreFiltered_applies :
    (KeyLevel.off ≠ work.power.keyLevel) ∧
    (keyDue .on (keyed .on .off .start) = true ∧ (keyed .on .off .start).mdc.mode = .start) ∧
    (keyDue .off (keyed .off .on .sleep) = true ∧ (keyed .off .on .sleep).mdc.mode = .sleep) ∧
    (keyDue .off (keyed .off .on .start) = true ∧ keyDue .off (keyed .off .on .closing) = true) ∧
    keyDue .off { keyed .off .on .start with now := 999999 } = false ∧ work.power.keyTimer = none ∧
    ({ work with power.keyTimer := some 999951 }.power.keyTimer = some 999951 ∧ work.now < 999951 + 50) := by
  decide +kernel

/-- An open truck of one weighed pass. -/
def aTruck : Truck :=
  { number := 65535, target := some 50000, passes := [{ number := 1, payload := some 13613, overload := false
                                                        carryMs := 4000, fuelAtDump := 10 }]
    total := 13613, fuelMark := 5, overload := false }

/-- A key-off with that truck open, an item whose PASSES bring it to OVERDUE, a restriction summary of this kind, and
loading complete or not. -/
def keyOffWithTruck (loaded creep : Bool) : State :=
  { keyed .off .on .working with
    plu.truck := some aTruck
    svu := { work.svu with
      loaded, meters.passes := 99, summary := { Summary.clear with slewCreep := creep }
      items := (Vector.replicate 32 none).set 31 (some { oilItem with
        defn := { label := 1, meter := .passes, interval := 100, lead := 0, grace := 0, lastDone := 0, nextDue := 100
                  restriction := .none } }) } }

/-- Each mode, without a truck and with one; a summary that the truck's meters change and one that stays, an item that
changes state, an ARMED monitor and an IDLE one, and the pending sums before loading. -/
theorem test_KeyOffClosesTheShift_applies :
    [PartMode.parked, .working, .service, .halt].all
      (fun m => keyDue .off (keyed .off .on m) && ((keyed .off .on m).mdc.mode == m)) = true ∧
    work.plu.truck = none ∧ ({ work with plu.truck := some aTruck } : State).plu.truck = some aTruck ∧
    (let s := keyOffWithTruck true true
     let u := after .keyOffTaken s
     keyDue .off s = true ∧ s.mdc.mode = .working ∧ s.plu.truck = some aTruck ∧ u.svu.summary ≠ s.svu.summary ∧
     u.svu.meters.passes ≠ s.svu.meters.passes ∧ (itemAt s 31).map (·.state) = some .ok ∧
     (itemAt u 31).map (·.state) = some .overdue) ∧
    (let s := keyOffWithTruck true false
     (after .keyOffTaken s).svu.summary = s.svu.summary) ∧
    (keyDue .off (keyOffWithTruck false true) = true ∧ (keyOffWithTruck false true).svu.loaded = false) ∧
    (monitorOf { work with evu.monitors.slewRight.armed := true } .slewRight).armed = true ∧
    (monitorOf work .boomUp).armed = false := by
  decide +kernel

/-- With SLEEP not due, VALID and INVALID, and with SLEEP due. -/
theorem test_KeyOnReturnsFromClosing_applies :
    (let s := keyed .on .off .closing
     keyDue .on s = true ∧ s.mdc.mode = .closing ∧ s.mdc.sleepWait ≠ some 0 ∧ s.mdc.calStatus = .valid) ∧
    (let s := { keyed .on .off .closing with mdc.calStatus := .invalid, mdc.sleepWait := some 1 }
     keyDue .on s = true ∧ s.mdc.mode = .closing ∧ s.mdc.sleepWait ≠ some 0 ∧ s.mdc.calStatus = .invalid) ∧
    (let s := { keyed .on .off .closing with mdc.sleepWait := some 0 }
     keyDue .on s = true ∧ s.mdc.mode = .closing ∧ s.mdc.sleepWait = some 0 ∧ (after .keyOnTaken s).mdc.mode = .start) := by
  decide +kernel

theorem test_EnterSleepLosesVolatileState_applies :
    sleepDue { inMode .closing with mdc.sleepWait := some 0 } = true := by decide +kernel

/-- A bank that a write has left whole. -/
def goodBank {α : Type} (region : α → RegionContent) (count : Nat) (x : α) : Bank α :=
  { written := true, count, content := x, crc := bankCrc count (region x) }

/-- It is good. -/
theorem goodBank_good {α : Type} (region : α → RegionContent) (count : Nat) (x : α) :
    checkBank region (goodBank region count x) = .good := Laws.checkBank_good rfl rfl

/-- A store whose six regions are good in one bank. -/
def goodStore : Store :=
  { calibration := { Banks.blank Calibration.default with bank0 := goodBank .calibration 0 workedCal }
    settings := { Banks.blank Settings.default with bank1 := goodBank .settings 65535 .default }
    fences := { Banks.blank FenceState.empty with bank0 := goodBank .fences 1 .empty }
    items := { Banks.blank (Vector.replicate 32 none) with
      bank0 := goodBank .items 0 ((Vector.replicate 32 none).set 31 (some oilItem)) }
    meters := { Banks.blank MetersContent.zero with bank0 := goodBank .meters 0 .zero }
    trucks := { Banks.blank [] with bank0 := goodBank .trucks 0 [] } }

/-- Each region of it is good in the bank that holds its content. -/
theorem test_goodStore_regions :
    newerGood .calibration goodStore.calibration = some .bank0 ∧ newerGood .settings goodStore.settings = some .bank1 ∧
    newerGood .fences goodStore.fences = some .bank0 ∧ newerGood .items goodStore.items = some .bank0 ∧
    newerGood .meters goodStore.meters = some .bank0 ∧ newerGood .trucks goodStore.trucks = some .bank0 :=
  ⟨Laws.newerGood_bank0 (goodBank_good ..) rfl, Laws.newerGood_bank1 (goodBank_good ..) rfl,
    Laws.newerGood_bank0 (goodBank_good ..) rfl, Laws.newerGood_bank0 (goodBank_good ..) rfl,
    Laws.newerGood_bank0 (goodBank_good ..) rfl, Laws.newerGood_bank0 (goodBank_good ..) rfl⟩

/-- Loading from a good store, from a blank one, and with the key off. -/
theorem test_LoadingChoosesTheMode_applies :
    (let s := { State.reset with store := goodStore }
     awake s = true ∧ s.mdc.mode = .start ∧ newerGood .calibration s.store.calibration = some .bank0 ∧
     newerGood .fences s.store.fences = some .bank0 ∧ s.plu.truck = none ∧ s.mdc.keyState = .on) ∧
    (awake State.reset = true ∧ newerGood .calibration State.reset.store.calibration = none ∧
      newerGood .fences State.reset.store.fences = none ∧ State.reset.evu.dataLost = false) ∧
    (let s := { State.reset with mdc.keyState := .off }
     awake s = true ∧ s.mdc.mode = .start ∧ s.mdc.keyState = .off) :=
  ⟨⟨by decide, by decide, test_goodStore_regions.1, test_goodStore_regions.2.2.1, by decide, by decide⟩,
    by decide +kernel, by decide +kernel⟩

/-- A meters record whose day mark is a given day. -/
def markedMeters (d : Nat) : MetersContent := { MetersContent.zero with dayMark := some d }

/-- Loading from a good store with an item; with no day mark, and with one that lies two days and a second back. -/
theorem test_LoadingSetsMetersItemsAndLead_applies :
    (let s := { State.reset with store := goodStore, svu.sums.fuel := 1000 }
     awake s = true ∧ s.mdc.mode = .start ∧ s.plu.truck = none) ∧
    (newerGood .items goodStore.items = some .bank0 ∧ (bankGet goodStore.items .bank0).content[31] = some oilItem) ∧
    (newerGood .meters goodStore.meters = some .bank0 ∧ (bankGet goodStore.meters .bank0).content.dayMark = none) ∧
    (let x := { Banks.blank MetersContent.zero with bank0 := goodBank .meters 0 (markedMeters 800000000) }
     newerGood .meters x = some .bank0 ∧ (bankGet x .bank0).content.dayMark = some 800000000 ∧
     (800172801 - 800000000) / 86400 = 2) :=
  ⟨by decide, ⟨test_goodStore_regions.2.2.2.1, by decide +kernel⟩, ⟨test_goodStore_regions.2.2.2.2.1, rfl⟩,
    Laws.newerGood_bank0 (goodBank_good ..) rfl, rfl, rfl⟩

/-- A channel record in a state, with runs. -/
def channelIn (st : ChState) (flags suspects recovery : Nat) : ChannelRec :=
  { validChannel 3000 0 with state := st, flagRun := flags, suspectRun := suspects, recoveryRun := recovery
                             suspect := some ⟨3200, 0⟩ }

/-- The part with this record on BOOM_ANG. -/
def onBoom (c : ChannelRec) : State := { sensed with siu.boomAng := c }

/-- A repeat; the second and the third flagged sample in a row; a flagged one to a FAILED channel. -/
theorem test_SamplesRepeatedOrFlagged_applies :
    awake sensed = true ∧ (channelGet sensed.siu .boomAng).counter = some 3 ∧
    [(ChState.valid, 1), (.valid, 2), (.failed, 3)].map (fun x =>
      let c := channelGet (onBoom (channelIn x.1 x.2 0 0)).siu .boomAng
      (decide (c.counter ≠ some 15), c.state, c.flagRun)) = [(true, .valid, 1), (true, .valid, 2), (true, .failed, 3)] := by
  decide +kernel

/-- Each state's clauses: near at exactly the step limit and beyond it by one, plausible at the edge and beyond. -/
theorem test_SamplesJudgedByState_applies :
    awake sensed = true ∧ (channelGet sensed.siu .boomAng).counter ≠ some 15 ∧
    (let n := stepLimit .boomAng
     near .boomAng ⟨3000 + n, 0⟩ (some ⟨3000, 0⟩) = true ∧ near .boomAng ⟨3001 + n, 0⟩ (some ⟨3000, 0⟩) = false ∧
     plausible .boomAng ⟨(plausibleRange .boomAng).2, 0⟩ = true ∧
     plausible .boomAng ⟨(plausibleRange .boomAng).2 + 1, 0⟩ = false ∧
     near .boomAng ⟨3200 + n, 0⟩ (channelIn .suspect 0 2 0).suspect = true ∧
     near .boomAng ⟨3201 + n, 0⟩ (channelIn .suspect 0 2 0).suspect = false ∧
     near .boomAng ⟨3201 + n, 0⟩ (channelIn .suspect 0 2 0).accepted = false) ∧
    [(ChState.absent, 0, 0), (.valid, 0, 0), (.stale, 0, 0), (.suspect, 1, 0), (.suspect, 2, 0), (.failed, 0, 0),
      (.failed, 0, 1), (.failed, 0, 2)].map (fun x =>
      let c := channelGet (onBoom (channelIn x.1 0 x.2.1 x.2.2)).siu .boomAng
      (c.state, c.suspectRun, c.recoveryRun)) =
      [(.absent, 0, 0), (.valid, 0, 0), (.stale, 0, 0), (.suspect, 1, 0), (.suspect, 2, 0), (.failed, 0, 0),
        (.failed, 0, 1), (.failed, 0, 2)] := by decide +kernel

/-- Each mark at its limit, the failure mark with fault-flag runs of 0, 1 and 2. -/
theorem test_FreshnessMarksReached_applies :
    (let c := channelGet sensed.siu .boomPress
     c.state = .valid ∧ reached c.markFrom 50 sensed.now = true ∧ reached c.markFrom 50 (sensed.now - 1) = false) ∧
    [(ChState.stale, 0), (.stale, 1), (.suspect, 2)].all (fun x =>
      let c := channelGet (onBoom { channelIn x.1 x.2 0 0 with acceptedAt := some 999500 }).siu .boomAng
      c.state == x.1 && c.flagRun == x.2 && reached c.acceptedAt 500 work.now) = true := by decide +kernel

/-- An acknowledged item at index 4 that falls due against a meter at 100 with this restriction. -/
def dueAt (m : Meter) (r : Restriction) : ItemTable :=
  (Vector.replicate 32 none).set 4 (some { oilItem with
    acked := true
    defn := { label := 1, meter := m, interval := 100, lead := 0, grace := 0, lastDone := 0, nextDue := 100
              restriction := r } })

/-- The part `s` with that item and its meter at 99: one count more makes it OVERDUE. -/
def oneShort (m : Meter) (r : Restriction) (s : State) : State :=
  { s with svu.items := dueAt m r, svu.meters := meterSet s.svu.meters m 99 }

/-- What a command does to that part: the item's state and acknowledged flag, the summary moved or not, a free place in the
notice queue. -/
def oneMore (i : Instr) (s : State) : Option (ItemState × Bool) × Bool × Bool :=
  let u := after i s
  ((itemAt u 4).map fun x => (x.state, x.acked), decide (u.svu.summary ≠ s.svu.summary),
    decide (u.lnc.notices.length < 24))

/-- An open truck that the next pass fills. -/
def fullTruck : Truck := { aTruck with passes := List.replicate 11 { number := 1, payload := some 13613, overload := false
                                                                     carryMs := 4000, fuelAtDump := 10 } }

/-- A pose due that brings a late response of BOOM_DOWN, in a part that still carries a restriction which its meters lift,
with an active fence set. -/
def poseDue (m : PartMode) : State :=
  { sensed with
    mdc.mode := m
    svu.slewRem := 35990, svu.summary := { Summary.clear with slewCreep := true }
    evu.fences := { FenceState.empty with sets := FenceState.empty.sets.set 3 aSet, active := some 3 }
    evu.outstanding := []
    evu.levers := { demands := some ⟨100, 100, 0, 0, 0, 0, 0, 0⟩, arrival := some 999950, fresh := true }
    evu.monitors := perFnSet work.evu.monitors .boomDown
      { armed := true, armTime := some 998500, armSeq := some 0, lastResponse := none, violations := 255 } }

/-- A pose due, in WORKING, SERVICE and CLOSING, with a plane part that becomes INVALID by ABSENT channels; validity parts
that change, a late response, a summary that the slew travel lifts and one that stays, no open truck and one of eleven passes. -/
theorem test_PoseTimerPublishesAPose_applies :
    (awake sensed = true ∧ reached sensed.gmu.poseTimer 20 sensed.now = true) ∧
    (let s := { sensed with mdc.mode := .closing, gmu.pose.seq := 65535 }
     awake s = true ∧ s.mdc.mode = .closing ∧ s.gmu.pose.seq = 65535) ∧
    (let s := { sensed with siu := .reset }
     awake s = true ∧ s.mdc.mode ≠ .closing ∧ (after .poseTimer s).gmu.pose.plane = .invalid) ∧
    (let u := after .poseTimer (poseDue .working)
     (poseDue .working).lnc.notices.length ≤ 4 ∧ (poseDue .working).svu.items = Vector.replicate 32 none ∧
     u.gmu.pose.plane ≠ (poseDue .working).gmu.pose.plane ∧ u.gmu.pose.slew ≠ (poseDue .working).gmu.pose.slew ∧
     poseLate (poseDue .working) u.gmu.pose (capRow u .boomDown).fence .boomDown = true ∧
     u.svu.summary ≠ (poseDue .working).svu.summary ∧
     (capRow u .boomDown).granted = poseGranted (poseDue .working) (capRow u .boomDown).fence .boomDown) ∧
    ((after .poseTimer sensed).svu.summary = sensed.svu.summary ∧ (poseDue .service).mdc.mode ≠ .parked ∧
      (poseDue .service).mdc.mode ≠ .working) ∧
    (oneMore .poseTimer (oneShort .violations .slewCreep (poseDue .working)) = (some (.overdue, false), false, true) ∧
      oneMore .poseTimer (oneShort .slewTravel .slewCreep sensed) = (some (.ok, true), false, true)) ∧
    ({ work with plu.truck := some aTruck } : State).plu.truck ≠ none ∧
    sensed.plu.truck = none ∧ (∀ t, some fullTruck = some t → t.passes.length = 11) := by
  refine ⟨by decide +kernel, by decide +kernel, by decide +kernel, by decide +kernel, by decide +kernel,
    by decide +kernel, by decide +kernel, rfl, ?_⟩
  rintro t ⟨⟩
  rfl

/-- The level front with a detector state, the joint rates boom and bucket having moved by so much, any bucket filled. -/
def loading (d : Detector) (boom bucket : Int) : State :=
  { sensed with
    rts.cal := { workedCal with fields := workedCal.fields.set 33 (-18000) }
    gmu.rateMem := some ⟨⟨.valid, some (3000 - boom)⟩, ⟨.valid, some (-6000)⟩, ⟨.valid, some (-9000 - bucket)⟩,
                         ⟨.valid, some 17990⟩⟩
    plu.detector := d }

/-- All four plane channels with a reading, a rate memory, and a pose due; the plane part INVALID or not; a grade target,
with coordinates and without; the detector in each state at the boundary rates. -/
theorem test_PoseCoordinatesAndRates_applies :
    awake sensed = true ∧ reached sensed.gmu.poseTimer 20 sensed.now = true ∧
    sensed.siu.boomAng.accepted = some ⟨3000, 0⟩ ∧ sensed.siu.stickAng.accepted = some ⟨-6000, 0⟩ ∧
    sensed.siu.bucketAng.accepted = some ⟨-9000, 0⟩ ∧ sensed.siu.upperTilt.accepted = some ⟨0, 0⟩ ∧
    sensed.gmu.rateMem.isSome = true ∧ (after .poseTimer sensed).gmu.pose.plane ≠ .invalid ∧
    (after .poseTimer (onBoom (channelIn .failed 0 0 0))).gmu.pose.plane = .invalid ∧
    sensed.gmu.grade = none ∧ (after .poseTimer sensed).gmu.pose.coords.isSome = true ∧
    (after .poseTimer (onBoom (channelIn .failed 0 0 0))).gmu.pose.coords = none ∧
    (let p := (after .poseTimer (loading .ready 6 0)).gmu.pose
     p.plane ≠ .invalid ∧ p.boomRate = some 300 ∧ p.bucket = some (-9000) ∧ p.stick = some (-6000) ∧
     calCurl (loading .ready 6 0).rts.cal ≤ (-9000 - -6000 + 18000) % 36000 - 18000) ∧
    (after .poseTimer (loading .ready 5 0)).gmu.pose.boomRate = some 250 ∧
    (after .poseTimer (loading .carry 0 (-40))).gmu.pose.bucketRate = some (-2000) ∧
    (let p := (after .poseTimer (loading .carry (-6) (-39))).gmu.pose
     p.bucketRate = some (-1950) ∧ p.boomRate = some (-300)) ∧
    (after .poseTimer (loading .return (-5) 0)).gmu.pose.boomRate = some (-250) ∧
    ((loading .carry 0 0).siu.boomPress.state = .valid ∧ (loading .carry 0 0).siu.boomPress.accepted.isSome = true ∧
      ((after .poseTimer (loading .carry 0 0)).gmu.pose.coords.map fun x => decide (1000 ≤ x.x3 - x.xp)) = some true) ∧
    (let s := { loading .carry 0 (-40) with plu.truck := some fullTruck, plu.samples := List.replicate 8 ⟨13613, false⟩ }
     s.lnc.notices.length ≤ 4 ∧ s.svu.items = Vector.replicate 32 none ∧ 8 ≤ s.plu.samples.length ∧
     (truckWith (openedTruck s) ⟨12, some 13613, false, 0, 0⟩).passes.length = 12 ∧
     (after .poseTimer s).plu.completed.map (·.passCount) = [12]) ∧
    ((2 : Int) ≤ 2 ∧ (2 : Int) + 8 * (2000 : Nat) ≤ 16002 ∧ (2 : Int) + 7 * 2000 ≤ 16001 ∧ (16001 : Int) < 2 + 8 * 2000) := by
  decide +kernel

theorem test_ReportAndRefreshTimers_applies :
    reached work.lnc.poseReport 100 work.now = true ∧
    reached { work with evu.refresh := some 999900 }.evu.refresh 100 work.now = true ∧
    reached (slotGet { work with eeu.slot2.requestTimer := some 999800 } .e2).requestTimer 200 work.now = true ∧
    (slotGet { work with eeu.slot2.state := .unused, eeu.slot2.requestTimer := some 999800 } .e2).state = .unused ∧
    (let s := { work with evu.outstanding := [(255, 999800), (0, 999990)] }
     s.evu.outstanding = (255, 999800) :: [(0, 999990)] ∧ s.evu.unconfirmed = false ∧ 999800 + 200 ≤ s.now) := by
  decide +kernel

/-- A part in a mode whose BOOM_UP stands granted 50 over a fence term of 49, with a demand and a hold. -/
def fenced (m : PartMode) (demand : Nat) (hold : Bool) : State :=
  { inMode m with
    mdc.lockout := .engaged
    evu.caps := perFnSet work.evu.caps .boomUp { fence := 49, slewCreep := 100, dataLost := 100, hold, computed := 50
                                                 granted := 50 }
    evu.levers := { demands := some ⟨demand, 0, 0, 0, 0, 0, 0, 0⟩, arrival := some 999950, fresh := true } }

/-- PARKED and WORKING, a part outside both; a mode that stands and one that changes, with a fall that arms a monitor, one
at its demand, and one that a hold makes. -/
theorem test_PvcStateReachesItsOwners_applies :
    awake work = true ∧ work.mdc.mode = .working ∧
    (let s := { inMode .parked with mdc.lockout := .engaged, eeu.ladder := .shutdownWarning }
     awake s = true ∧ s.mdc.lockout = .engaged ∧ s.eeu.ladder = .shutdownWarning) ∧
    (awake (inMode .service) = true ∧ (inMode .service).mdc.mode ≠ .parked ∧ (inMode .service).mdc.mode ≠ .working) ∧
    (after (.pvcState 0 1 19 0 true true) { burning with gmu.pose.seq := 1 }).evu.grant.seq = 1 ∧
    (after (.pvcState 0 0 19 0 true true) (fenced .parked 50 false)).mdc.mode = (fenced .parked 50 false).mdc.mode ∧
    [(50, false), (49, false), (50, true)].map (fun x =>
      let s := fenced .parked x.1 x.2
      let u := after (.pvcState 0 1 19 0 true true) s
      (u.mdc.mode != s.mdc.mode, (capRow s .boomUp).hold, decide ((capRow s .boomUp).fence < (capRow s .boomUp).granted),
        decide ((capRow s .boomUp).fence < demandOf s .boomUp), (monitorOf u .boomUp).armed)) =
      [(true, false, true, true, true), (true, false, true, false, false), (true, true, true, true, false)] := by
  decide +kernel

/-- A slot in a state, the lead. -/
def leadIn (st : SlotState) : State :=
  { work with eeu.slot1 := { State.reset.eeu.slot1 with state := st, silence := some 999500
                                                        status := some ⟨.running, 1700, 80, 1200, 50, false⟩
                                                        timer := some 999500 } }

/-- The second slot in a state beside an ONLINE lead, the pump at full demand or idle, the join hold at its limit. -/
def secondIn (st : SlotState) (busy : Bool) : State :=
  { leadIn .online with
    eeu.slot2 := { State.reset.eeu.slot2 with state := st, silence := some 999500, timer := some 999500 }
    eeu.warmup := false
    eeu.joinHold := if busy then .reached 980000 else .stopped
    eeu.accumulator := if busy then 64000 else 0
    eeu.average := if busy then 4000 else 0 }

/-- The lead slot in each reported state, the ladder away from SHUT_DOWN and at it; the second slot with no cause
standing, with a leave cause, at SHUT_DOWN, in CLOSING, and with the join condition; the states that a report leaves. -/
theorem test_GroupReportsMoveTheLead_applies :
    (slotGet (leadIn .joining) .e1).role = .lead ∧ (slotGet (leadIn .joining) .e1).state = .joining ∧
    (after (.pvcState 0 1 60 0 true false) (leadIn .joining)).eeu.ladder ≠ .shutDown ∧
    ((leadIn .online).eeu.ladder ≠ .shutDown ∧
      (after (.pvcState 0 1 60 0 false false) (leadIn .online)).eeu.ladder ≠ .shutDown ∧
      (after (.pvcState 0 1 60 0 false false) (leadIn .online)).mdc.mode ≠ .closing ∧ NoticeRoom (leadIn .online)) ∧
    (after (.pvcState 0 1 60 0 false false) (leadIn .leaving)).eeu.ladder ≠ .shutDown ∧
    (after (.pvcState 0 1 60 0 false false) { leadIn .leaving with eeu.ladder := .shutDown }).eeu.ladder = .shutDown ∧
    (slotGet (secondIn .joining false) .e2).role = .second ∧
    [SlotState.joining, .online, .leaving, .starting, .warming, .stopped].all (fun st =>
      let u := after (.pvcState 0 1 60 0 true (st == .joining)) (secondIn st false)
      (slotGet (secondIn st false) .e2).state == st && u.eeu.ladder != .shutDown && !leaveCause u &&
        !joinCondition u && u.mdc.mode != .closing) = true ∧
    (let u := after (.pvcState 0 1 60 0 true false) { secondIn .online false with eeu.ladder := .lowIdle }
     leaveCause u = true ∧ u.mdc.mode ≠ .halt ∧ u.mdc.mode ≠ .closing ∧ u.eeu.ladder ≠ .shutDown) ∧
    (after (.pvcState 0 1 60 0 true false) { secondIn .online false with eeu.ladder := .shutDown }).eeu.ladder =
      .shutDown ∧
    (after (.pvcState 0 1 60 0 true false) { secondIn .online false with mdc.mode := .closing }).mdc.mode = .closing ∧
    (let u := after (.pvcState 4000 1 60 0 true false) (secondIn .leaving true)
     joinCondition u = true ∧ secondEngine (secondIn .leaving true) = .e2 ∧ workMode u.mdc.mode = true) := by
  unfold NoticeRoom
  decide +kernel

/-- Demands at 4 and at 5 percent; a fall that arms a monitor, one that reaches the demand and one that a hold makes; an
ARMED monitor one percent above its granted cap, at it, and at neutral. -/
theorem test_LeverFramesRaiseCapsAtNeutral_applies :
    [(50, false, false), (49, false, false), (50, false, true), (50, true, false), (49, true, false), (4, true, false)].map
      (fun x =>
        let s := { fenced .parked 0 x.2.2 with evu.monitors.boomUp.armed := x.2.1 }
        let u := after (.pvcLevers ⟨x.1, 0, 0, 0, 0, 0, 0, 0⟩) s
        ((capRow s .boomUp).granted, (capRow u .boomUp).granted, (monitorOf u .boomUp).armed,
          (monitorOf u .boomUp).armSeq)) =
      [(50, 49, true, some 1), (50, 49, false, none), (50, 0, false, none), (50, 49, true, none), (50, 49, false, none),
        (50, 49, false, none)] ∧
    awake work = true ∧ perFnGet (⟨4, 5, 0, 0, 0, 0, 0, 0⟩ : PerFn Nat) .boomUp < 5 ∧
    5 ≤ perFnGet (⟨4, 5, 0, 0, 0, 0, 0, 0⟩ : PerFn Nat) .boomDown ∧
    [Ladder.autoIdle, .lowIdle, .shutdownWarning, .shutDown].all
      (fun l => ({ work with eeu.ladder := l } : State).eeu.ladder == l) = true := by decide +kernel

/-- An unknown engine state, an UNUSED slot, and each engine state on a slot in the states the clauses name. -/
theorem test_EngineStatusTakenByItsSlot_applies :
    (awake work = true ∧ 3 < 4 ∧ (slotGet { work with eeu.slot2.state := .unused } .e2).state = .unused) ∧
    [0, 1, 2, 3].map runStateOfCode = [some .stopped, some .cranking, some .running, some .fault] ∧
    [SlotState.starting, .stopping, .faulted, .stopped].all
      (fun st => (slotGet (leadIn st) .e1).state == st && (slotGet (leadIn st) .e1).role == .lead) = true ∧
    (let s := { leadIn .stopped with eeu.ladder := .shutDown }
     s.eeu.ladder = .shutDown ∧ s.mdc.mode ≠ .closing ∧ s.eeu.countdown = none) ∧
    (let s := { leadIn .stopped with mdc.mode := .halt }
     s.mdc.mode = .halt ∧ s.eeu.countdown = none ∧ (39 : Int) < 40 ∧ (40 : Int) ≤ 40) ∧
    [SlotState.stopped, .starting, .warming, .leaving, .stopping].all (fun st =>
      let u := after (.engineStatus .e2 2 1700 40 0 0 false) (secondIn st false)
      (slotGet (secondIn st false) .e2).state == st && u.eeu.ladder != .shutDown && !leaveCause u &&
        (slotGet (secondIn st false) .e2).role == .second) = true ∧
    ((inMode .closing).mdc.mode = .closing ∧ NoticeRoom (secondIn .starting false) ∧
      (slotGet (after (.engineStatus .e2 3 0 40 0 0 false) (secondIn .starting false)) .e2).state ≠ .starting) ∧
    (let u := after (.engineStatus .e2 2 1700 40 0 0 false) { secondIn .stopped false with eeu.ladder := .lowIdle }
     leaveCause u = true ∧ u.eeu.ladder ≠ .shutDown ∧ work.mdc.mode ≠ .halt ∧ work.mdc.mode ≠ .closing) ∧
    (after (.engineStatus .e2 2 1700 40 0 0 false) { secondIn .warming false with eeu.ladder := .shutDown }).eeu.ladder =
      .shutDown ∧
    joinCondition (after (.engineStatus .e2 0 0 40 0 0 false) (secondIn .online true)) = true ∧
    [(SlotState.ready, Ladder.work, false, .ready), (.ready, .work, true, .joining), (.ready, .lowIdle, false, .cooldown),
      (.ready, .shutDown, false, .stopping), (.joining, .work, true, .joining), (.joining, .lowIdle, false, .leaving),
      (.online, .work, true, .online), (.online, .lowIdle, false, .leaving), (.online, .shutDown, false, .leaving),
      (.cooldown, .lowIdle, false, .cooldown), (.cooldown, .work, true, .joining),
      (.cooldown, .shutDown, false, .stopping)].map (fun x =>
        let s := { secondIn x.1 x.2.2.1 with eeu.ladder := x.2.1 }
        let u := after (.engineStatus .e2 2 1700 40 0 0 false) s
        ((slotGet s .e2).role, decide ((slotGet u .e2).state = x.2.2.2))) = List.replicate 12 (.second, true) ∧
    [(SlotState.ready, PartMode.working, SlotState.joining), (.ready, .halt, .ready), (.ready, .closing, .stopping),
      (.joining, .closing, .joining), (.online, .halt, .online), (.cooldown, .working, .cooldown)].all (fun x =>
        let s := { leadIn x.1 with mdc.mode := x.2.1 }
        (slotGet s .e1).role == .lead && (slotGet s .e1).state == x.1 &&
          (slotGet (after (.engineStatus .e1 2 1700 40 0 0 false) s) .e1).state == x.2.2) = true ∧
    (after (.engineStatus .e2 1 0 40 0 0 false) (secondIn .starting false)).eeu.ladder ≠ .shutDown := by
  unfold NoticeRoom
  decide +kernel

theorem test_StaleLeversAndDiscardedFrames_applies :
    let s := { work with evu.levers := { demands := some ⟨0, 0, 0, 0, 0, 0, 0, 9⟩, arrival := some 999900, fresh := true } }
    awake s = true ∧ s.evu.levers.fresh = true ∧ reached s.evu.levers.arrival 100 s.now = true := by decide +kernel

/-- A monitor ARMED for exactly 2,000 ms, loaded and not. -/
def failing (ld : Bool) : State :=
  { work with
    svu.loaded := ld
    evu.monitors := perFnSet work.evu.monitors .stickOut
      { armed := true, armTime := some 998000, armSeq := some 41, lastResponse := some 180, violations := 255 } }

theorem test_FailedResponseHoldsTheFunction_applies :
    awake (failing true) = true ∧ responseFailDue (failing true) .stickOut = true ∧
    (failing false).svu.loaded = false ∧ responseFailStands (failing true) = false ∧
    counted (failing true) .responseFail = true ∧ (failing true).mdc.mode = .working ∧
    oneMore (.responseFailTimeout .stickOut) (failing true) = (none, false, true) ∧
    oneMore (.responseFailTimeout .stickOut) (oneShort .violations .slewCreep (failing true)) =
      (some (.overdue, false), true, true) ∧
    (let s := { oneShort .violations .none (failing true) with mdc.mode := .closing, svu.entrySaveBegun := true }
     s.mdc.mode = .closing ∧ s.svu.entrySaveBegun = true ∧
     (after (.responseFailTimeout .stickOut) s).svu.meters ≠ s.svu.meters) := by decide +kernel

/-- The lead in a state, its slot timer and silence timer at these starts. -/
def leadTimed (st : SlotState) (timer silence : Millis) : State :=
  { leadIn st with eeu.slot1.timer := some timer, eeu.slot1.silence := some silence }

theorem test_EngineMarksFaultTheSlot_applies :
    (leadTimed .starting 980000 999500).lnc.notices.length ≤ 8 ∧
    (silenceDue (leadTimed .online 0 999000) .e1 = true ∧ (slotGet (leadTimed .online 0 999000) .e1).state ≠ .faulted ∧
      engineFaultStands (leadTimed .online 0 999000) = false ∧
      counted (leadTimed .online 0 999000) .engineFault = true) ∧
    (let s := { leadTimed .stopped 0 999000 with mdc.mode := .closing }
     silenceDue s .e1 = true ∧ (slotGet s .e1).state = .stopped ∧ s.mdc.mode = .closing) ∧
    silenceDue (leadTimed .faulted 0 999000) .e1 = true ∧
    slotDue (leadTimed .starting 980000 999500) .e1 .starting 20000 = true ∧
    slotDue (leadTimed .stopping 970000 999500) .e1 .stopping 30000 = true := by decide +kernel

theorem test_EngineOperationsEnd_applies :
    slotDue (leadTimed .joining 999250 999500) .e1 .joining 750 = true ∧
    slotDue (leadTimed .leaving 999250 999500) .e1 .leaving 750 = true ∧
    slotDue (leadTimed .cooldown 820000 999500) .e1 .cooldown 180000 = true ∧
    (let s := { leadTimed .ready 0 999500 with eeu.slot1.retry := some 970000 }
     reached (slotGet s .e1).retry 30000 s.now = true ∧ (slotGet s .e1).role = .lead ∧
     (slotGet s .e1).state = .ready ∧ s.mdc.mode = .working ∧ (after (.retryWaitEnd .e1) s).eeu.ladder ≠ .shutDown) ∧
    (let s := { leadTimed .online 0 999500 with eeu.slot1.retry := some 970000, eeu.ladder := .shutDown }
     reached (slotGet s .e1).retry 30000 s.now = true ∧ (slotGet s .e1).state = .online ∧ s.eeu.ladder = .shutDown ∧
     s.mdc.mode ≠ .halt) := by
  decide +kernel

/-- Two engines of 1,100 kW: an average just above 85 % of the lead's, and one just below 35 % of both. -/
def averaging (n : Nat) : State :=
  { leadTimed .online 0 999500 with
    eeu.average := n, eeu.pumpDemand := some n, eeu.warmup := false, eeu.effective := .standard
    eeu.joinHold := .running 990000, eeu.leaveHold := .running 940000 }

/-- The second engine ONLINE. -/
def bothOnline (n : Nat) : State := { averaging n with eeu.slot2.state := .online, eeu.slot2.silence := some 999500 }

theorem test_HoldTimersActOnTheSecondEngine_applies :
    (let s := averaging 936
     s.eeu.joinHold = .running 990000 ∧ 990000 + 10000 ≤ s.now ∧ joinTerms s = true ∧
     effectiveMode s = s.eeu.effective ∧ leaveCondition s = false ∧ s.eeu.countdown = none ∧
     (slotGet s (secondEngine s)).role = .second ∧ (slotGet s (secondEngine s)).state = .stopped ∧
     joinTerms (after .joinHoldReached s) = true) ∧
    joinTerms (after .joinHoldReached (averaging 935)) = false ∧
    (let s := bothOnline 769
     s.eeu.leaveHold = .running 940000 ∧ 940000 + 60000 ≤ s.now ∧ leaveTest s = true ∧
     (slotGet s .e2).role = .second ∧ (slotGet s .e2).state = .online ∧ (slotGet s .e2).retry = none ∧
     s.mdc.mode ≠ .halt) ∧
    (let s := { bothOnline 769 with mdc.mode := .halt }
     s.eeu.leaveHold = .running 940000 ∧ leaveTest s = true ∧ (slotGet s .e2).state = .online ∧
     (slotGet s .e2).retry = none ∧ s.eeu.countdown = none ∧ awake s = true) ∧
    leaveTest (bothOnline 770) = false := by decide +kernel

theorem test_LadderStepsDown_applies :
    (let s := { work with eeu.autoIdle := some 996000 }
     s.eeu.ladder = .work ∧ reached s.eeu.autoIdle (s.eeu.settings.autoIdle * 1000) s.now = true) ∧
    (let s := { inMode .parked with eeu.ladder := .autoIdle, eeu.lockoutTimer := some 940000, mdc.lockout := .engaged }
     s.eeu.ladder = .autoIdle ∧ reached s.eeu.lockoutTimer 60000 s.now = true) ∧
    (let s := { inMode .parked with eeu.ladder := .lowIdle, eeu.shutdownDelay := some 100000 }
     s.eeu.ladder = .lowIdle ∧ s.mdc.mode ≠ .halt ∧ s.eeu.settings.shutdown ≠ 0 ∧
     reached s.eeu.shutdownDelay (s.eeu.settings.shutdown * 60000) s.now = true) := by decide +kernel

/-- The countdown at a number of seconds shown, begun so many ms ago. -/
def counting (shown ago : Nat) (noStop : Bool) : State :=
  { leadIn .online with
    eeu.ladder := .shutdownWarning, eeu.countdown := some { since := 1000000 - ago, shown }
    eeu.slot1.status := some ⟨.running, 1700, 80, 1200, 50, noStop⟩ }

theorem test_CountdownRunsToShutDown_applies :
    (let s := counting 20 80000 false
     s.eeu.countdown = some { since := 920000, shown := 20 } ∧ 920000 + (100 - 20) * 1000 ≤ s.now) ∧
    (let s := counting 10 90000 true
     s.eeu.countdown = some { since := 910000, shown := 10 } ∧ 910000 + 90000 ≤ s.now ∧ noStopStands s = true) ∧
    (let s := counting 10 90000 false
     noStopStands s = false ∧ s.eeu.ladder = .shutdownWarning) ∧
    ((counting 0 100000 true).eeu.countdown = some { since := 900000, shown := 0 } ∧
      (counting 0 100000 true).eeu.ladder = .shutdownWarning ∧ (counting 0 100000 true).lnc.notices.length ≤ 8) ∧
    [(Instr.engineStatus .e1 2 1700 80 1200 50 true, Ladder.shutdownWarning),
      (.engineStatus .e1 2 1700 80 1200 50 false, .shutDown), (.engineStatus .e1 1 1700 80 1200 50 true, .shutDown),
      (.engineStatus .e2 2 1700 80 1200 50 true, .shutdownWarning)].map
      (fun x => (runStateOfCode 2, (after x.1 (counting 0 100000 true)).eeu.ladder == x.2)) =
      List.replicate 4 (some .running, true) ∧
    [(SlotState.online, (999000 : Millis), (999500 : Millis), Instr.engineSilence .e1, true),
      (.starting, 999500, 980000, .startTimeout .e1, true), (.stopping, 999500, 970000, .stopTimeout .e1, true)].map
      (fun x =>
        let s := counting 0 100000 true
        let s := { s with eeu.slot1 := { s.eeu.slot1 with state := x.1, silence := some x.2.1, timer := some x.2.2.1 } }
        (markReached s x.2.2.2.1, (slotGet s .e1).state == .faulted, (after x.2.2.2.1 s).eeu.ladder)) =
      List.replicate 3 (some true, false, .shutDown) := by decide +kernel

theorem test_FeedsReachTheMeters_applies :
    awake burning = true ∧ reached burning.eeu.fuelTimer 100 burning.now = true ∧
    reached burning.eeu.feedTimer 1000 burning.now = true ∧
    (after .feedTimer burning).svu.meters.oilHeat = 4 ∧ (after .feedTimer burning).svu.meters.pumpWork = 0 ∧
    [oneMore .fuelTimer { burning with svu.items := dueAt .engine1Run .none },
      oneMore .fuelTimer { oneShort .fuel .slewCreep burning with svu.fuelRem := 999 },
      oneMore .feedTimer (oneShort .engine1Run .slewCreep burning),
      oneMore .feedTimer (oneShort .engine1Run .none burning)] =
      [(some (.ok, true), false, true), (some (.overdue, false), true, true), (some (.overdue, false), true, true),
        (some (.overdue, false), false, true)] := by
  decide +kernel

/-- A reminder due for twenty items, twelve of whose notices still wait. -/
def manyDue : State :=
  { work with
    svu.items := Vector.ofFn fun k => if k.val < 20 then some { oilItem with state := .approaching } else none
    lnc.notices := (List.range 12).map fun k =>
      { kind := .itemState, subject := k, severity := .warn, value := some 3, stamp := none } }

/-- Each mark due; one item due; twenty with just the room that they need; and all 32 without it. -/
theorem test_SaveReminderAndSilenceMarks_applies :
    saveDue work = true ∧ reminderDue work = true ∧
    (let s := { withItem { oilItem with state := .overdue } 11836000 with svu.reminderTimer := some 100000 }
     reminderDue s = true ∧ s.lnc.notices.length ≤ 8 ∧ itemAt s 4 = some { oilItem with state := .overdue }) ∧
    (reminderDue manyDue = true ∧ itemAt manyDue 19 = some { oilItem with state := .approaching } ∧
      manyDue.lnc.notices.length + (allItems.filter fun k => ((itemAt manyDue k).any fun i => i.state != .ok && !i.acked) &&
        !manyDue.lnc.notices.any fun e => e.kind == .itemState && e.subject == k.val).length = 20 ∧
      (after .reminderTimer manyDue).lnc.notices.length < 24) ∧
    (after .reminderTimer { manyDue with svu.items := Vector.replicate 32 (some { oilItem with state := .due })
                                         lnc.ctlB := some (.poseReport0 .reset) }).lnc.notices.length = 24 ∧
    (work.mdc.mode ≠ .closing ∧ work.lnc.pvcSilent = false ∧ reached work.lnc.pvcTimer 500 work.now = true ∧
      counted work .pvcSilent = true) := by decide +kernel

/-- A second asleep; awake without a day mark, a second before a day past the mark, and at it. -/
theorem test_ClockSecondsAndDays_applies :
    (awake (inMode .sleep) = false ∧ (inMode .sleep).clock.time = some 800000000 ∧
      (inMode .sleep).clock.mark + 1000 ≤ (inMode .sleep).now) ∧
    (awake work = true ∧ 800086398 + 1 < 800000000 + 86400 ∧ 800000000 + 86400 ≤ 800086399 + 1) ∧
    ({ work with clock.time := some 800086399 } : State).svu.dayMark = some 800000000 ∧
    ({ work with svu.dayMark := none } : State).svu.dayMark = none ∧
    ([Restriction.slewCreep, .none].map fun r =>
      oneMore .clockSecond { oneShort .calendar r work with clock.time := some 800086399 }) =
      [(some (.overdue, false), true, true), (some (.overdue, false), false, true)] := by decide +kernel

theorem test_SilentHolderLosesTheToken_applies :
    (let s := editing .cdt .whenDone none
     awake s = true ∧ s.rts.token.holder = some (claim .cdt .whenDone) ∧ s.rts.token.silenceDue = false ∧
     reached s.rts.token.silence 30000 s.now = true ∧ s.rts.token.commit = none) ∧
    (committing3 .cdt .whenDone).rts.token.commit.isSome = true := by decide +kernel

/-- A busy controller, and each queue at the head of the order. -/
theorem test_FreeControllersTakeInOrder_applies :
    (awake State.reset = true ∧ State.reset.lnc.ctlA.isSome = true ∧ State.reset.lnc.ctlB.isSome = true) ∧
    (let s := { State.reset with lnc.ctlA := none }
     s.lnc.ctlA = none ∧ s.lnc.txGrant = .grantPower .reset :: []) ∧
    (work.lnc.ctlA = none ∧ work.lnc.txGrant = []) ∧
    (let s := { replying 2 with lnc.ctlB := none }
     s.lnc.ctlB = none ∧ s.lnc.replies = aReply :: [aReply]) ∧
    (let s := { work with lnc.txPose := [.poseReport1 .reset] }
     s.lnc.ctlB = none ∧ s.lnc.replies = [] ∧ s.lnc.txPose = .poseReport1 .reset :: []) ∧
    ([([], 0), ([0x01#8], 0), ([0x01#8], 1), (List.replicate 6 0x01#8, 1)].map fun x =>
      let s := { replying 0 with lnc.ctlB := none, lnc.replies := [{ aReply with content := x.1, sent := x.2 }]
                                 mdc.sleepWait := some 2, mdc.resetWait := some 1 }
      let t := linkSettle s
      (decide ((x.1.length + 4) / 5 ≤ x.2), t.mdc.sleepWait, t.mdc.resetWait, t.lnc.replies.length)) =
      [(true, some 1, some 0, 0), (false, some 2, some 1, 1), (true, some 1, some 0, 0), (false, some 2, some 1, 1)] ∧
    (work.lnc.ctlB = none ∧ work.lnc.replies = [] ∧ work.lnc.txPose = [] ∧ work.lnc.notices = []) ∧
    (let n : Notice := { kind := .modeChange, subject := 0, severity := .info, value := some 0, stamp := none }
     let s := { work with lnc.notices := [n], lnc.lastNotice := some 999990 }
     s.lnc.notices = n :: [] ∧ s.lnc.txPose = [] ∧ reached s.lnc.lastNotice 10 s.now = true ∧
     reached ({ s with now := 999999 } : State).lnc.lastNotice 10 999999 = false ∧ s.lnc.lastNotice.isSome = true) := by
  decide +kernel

/-- A write in flight, alone, with another asked for, in CLOSING, and with a reset pending. -/
theorem test_RegionWritesEnd_applies :
    (let s := writing false work
     awake s = true ∧ s.rts.inFlight = some (metersWrite false) ∧ (metersWrite false).carriesCommit = false ∧
     s.rts.pendingSave = [] ∧ s.rts.failed = [] ∧ s.lnc.notices.length ≤ 8) ∧
    (let s := { writing false work with rts.pendingSave := [.trucks, .items] }
     s.rts.pendingSave = .trucks :: [.items] ∧ s.svu.loaded = true ∧ bankSource s.store .trucks = none ∧
     s.rts.token.commit = none) ∧
    (let s := { writing false (committing3 .st .whenDone) with
       rts.pendingSave := [.fences], store := { State.reset.store with fences.source := some .bank0, fences.bank0.count := 65535 } }
     s.rts.pendingSave = .fences :: [] ∧ bankSource s.store .fences = some .bank0 ∧
     bankCount s.store .fences .bank0 = 65535 ∧ s.rts.token.commit = some { subject := stagedSet, who := .st } ∧
     (after .regionWriteComplete s).rts.inFlight.map (fun v => (v.bank, v.count, v.carriesCommit)) =
       some (.bank1, 0, true)) ∧
    (let s := { writing false (inMode .closing) with mdc.resetPending := true }
     s.mdc.mode = .closing ∧ s.rts.pendingSave = [] ∧ s.mdc.resetPending = true) ∧
    (let s := writing false (inMode .closing)
     s.mdc.resetPending = false ∧ s.mdc.resetWait = none) := by decide +kernel

/-- READs with seven replies waiting: one that exists at the last index, one that does not. -/
theorem test_ReadsAnswerTheirRecord_applies :
    (commandOf (.readItem .tg 31) = some (.tg, 1) ∧ awake (replying 7) = true ∧ (replying 7).lnc.replies.length < 8 ∧
      senderRefused (replying 7) (.readItem .tg 31) = false ∧
      (readContent (heardCommand .tg 1 (replying 7)) (.readItem .tg 31)).isSome = true) ∧
    (readContent (heardCommand .tg 1 (replying 7)) (.readItem .tg 32)).isNone = true ∧
    (readContent (heardCommand .cdt 1 (replying 7)) (.readFenceSet .cdt 4)).isNone = true := by decide +kernel

/-- The token free; the holder asking; the holder with a waiter; a waiter asking; a preemption; a place in the list. -/
def tokenState (h : Claim) (w : List Claim) : State :=
  { editing h.who h.policy none with rts.token.waiting := w }

theorem test_TokenRequestsByCase_applies :
    (awake work = true ∧ work.mdc.mode ≠ .start ∧ work.lnc.replies.length < 8 ∧ work.mdc.mode ≠ .closing ∧
      work.rts.token.holder = none ∧ work.rts.token.waiting = [] ∧ work.rts.token.staging = none ∧
      work.lnc.half = none) ∧
    ((inMode .closing).mdc.mode = .closing ∧ ¬ (0 = 1 ∨ 0 = 2) ∧ ¬ (3 = 1 ∨ 3 = 2)) ∧
    (let s := tokenState (claim .cdt .whenDone) [claim .st .onRequest, claim .tg .whenDone]
     s.rts.token.holder = some (claim .cdt .whenDone) ∧ s.rts.token.commit = none ∧
     s.rts.token.waiting = [] ++ claim .st .onRequest :: [claim .tg .whenDone] ∧
     masterRank (claim .st .onRequest).who < masterRank (claim .tg .whenDone).who) ∧
    (let s := tokenState (claim .cdt .onRequest) [claim .tg .whenDone]
     s.rts.token.holder = some (claim .cdt .onRequest) ∧ (claim .cdt .onRequest).who ≠ .st ∧
     s.rts.token.waiting.all (fun w => w.who != .st) = true ∧ s.rts.token.commit = none) ∧
    (committing3 .cdt .onRequest).rts.token.commit.isSome = true := by decide +kernel

/-- The invariant that the token statement asks for, of a holder with both others waiting. -/
theorem test_TokenOk_of_a_full_list :
    TokenOk (tokenState (claim .cdt .whenDone) [claim .st .onRequest, claim .tg .whenDone]) := by
  refine ⟨by decide +kernel, fun h e => ?_, fun e => ?_, by decide +kernel⟩
  · cases e; decide +kernel
  · exact absurd e (by decide +kernel)

theorem test_ReleaseAbandonAndStaging_applies :
    (let s := editing .st .whenDone none
     awake s = true ∧ s.mdc.mode ≠ .start ∧ s.lnc.replies.length < 8 ∧ holds .st s = true ∧
     s.rts.token.commit = none ∧ holderOnRequest s = false) ∧
    holderOnRequest (editing .st .onRequest none) = true ∧
    (let s := committing3 .tg .whenDone
     holds .tg s = true ∧ s.rts.token.commit.isSome = true) ∧
    (let s := tokenState (claim .cdt .whenDone) [claim .tg .whenDone]
     holds .tg s = false ∧ s.rts.token.waiting.any (fun w => w.who == .tg) = true ∧
     holds .st s = false ∧ s.rts.token.waiting.all (fun w => w.who != .st) = true) := by decide +kernel

/-- A half-write of index 7. -/
def halfOf (kind margin creep : Nat) : HalfWrite := { index := 7, kind, enabled := true, margin, creep }

/-- The set staged, with a half-write of each form; entries with and without an applicability sector. -/
theorem test_FenceEditsOnAStagedSet_applies :
    (let s := { editing .tg .onRequest (some stagedSet) with lnc.half := some (halfOf 3 99 51) }
     awake s = true ∧ s.mdc.mode ≠ .start ∧ s.lnc.replies.length < 8 ∧ holds .tg s = true ∧
     s.rts.token.commit = none ∧ s.rts.token.staging = some (.fenceSet 3 aSet) ∧
     s.lnc.half = some (halfOf 3 99 51) ∧ (halfOf 3 99 51).index = 7 ∧ planarOfCode 3 = some .reach) ∧
    ((halfOf 4 4501 4).kind = 4 ∧ (halfOf 1 0 0).index ≠ 6 ∧ planarOfCode 1 = some .ceiling ∧
      planarOfCode 4 = none) ∧
    (aSet[7] = some { shape := .planar .ceiling 12000 (some ⟨9000, 13500⟩), enabled := true, margin := 1500, creep := 20 } ∧
      aSet[0] = none) := by decide +kernel

/-- An item and the calibration block staged; a range field, a code field, and a field that does not exist. -/
theorem test_ItemAndCalibrationEdits_applies :
    (let s := editing .tg .whenDone (some (.item 31 none false false))
     awake s = true ∧ holds .tg s = true ∧ s.rts.token.commit = none ∧ Master.tg ≠ .cdt ∧
     s.rts.token.staging = some (.item 31 none false false)) ∧
    (let s := editing .st .whenDone (some (.calibration workedCal))
     holds .st s = true ∧ s.rts.token.staging = some (.calibration workedCal)) ∧
    ((calRange 0).isSome = true ∧ (calRange 34).isSome = true ∧ (calRange 50).isSome = true ∧ 51 ≤ 51) ∧
    (meterOfCode 9 = some .violations ∧ meterOfCode 10 = none ∧ restrictionOfCode 4 = some .slewCreep ∧
      restrictionOfCode 5 = none) := by decide +kernel

/-- A staged set with its CRC and another; locked; a calibration staged in WORKING; an item cleared, over a live one and
over an EMPTY entry, whose write can begin at once. -/
theorem test_CommitByCase_applies :
    (let s := editing .cdt .whenDone (some stagedSet)
     awake s = true ∧ holds .cdt s = true ∧ s.rts.token.commit = none ∧ s.rts.token.staging = some stagedSet ∧
     s.evu.fences.lock = true ∧
     stagedRegion stagedSet = .fences) ∧
    (let s := { editing .cdt .whenDone (some stagedSet) with evu.fences.lock := false }
     ¬ (s.evu.fences.lock = true) ∧ s.rts.inFlight = none ∧ s.rts.pendingSave = [] ∧ s.svu.loaded = true) ∧
    (∃ crc, crc = (crc16 (canonicalForm stagedSet)).toNat) ∧
    (0 ≠ (crc16 (canonicalForm (.item 31 none false false))).toNat) ∧
    (stagedRegion (.calibration workedCal) = .calibration ∧ work.mdc.mode ≠ .parked ∧ work.mdc.mode ≠ .halt) ∧
    [((4 : Fin 32), none), (4, some oilItem.defn), (31, some oilItem.defn)].map (fun x =>
      let s := { withItem oilItem 0 with
        rts.token := (editing .st .whenDone (some (.item x.1 x.2 false true))).rts.token }
      (holds .st s, s.rts.token.commit.isSome, (itemAt s x.1).isSome,
        s.rts.inFlight.isNone && s.rts.pendingSave.isEmpty && s.svu.loaded)) =
      [(true, false, true, true), (true, false, true, true), (true, false, false, true)] :=
  ⟨by decide +kernel, by decide +kernel, ⟨_, rfl⟩, by decide +kernel, by decide +kernel, by decide +kernel⟩

/-- The part with the write of this commit of the ST in flight, the token held with this policy, this list of waiting
claims and a silence loss due or not. -/
def ending (x : Staged) (p : Policy) (w : List Claim) (silent : Bool) (s : State) : State :=
  { writing true s with
    rts.token := { holder := some (claim .st p), waiting := w, silence := some 970000, silenceDue := silent
                   staging := some x, commit := some { subject := x, who := .st } } }

/-- The worked calibration with every fault masked in but PVC silence. -/
def masking : Calibration := { fields := workedCal.fields.set 46 59 }

/-- The write of a commit in flight, with each end of the token: kept, released, preempted, lost; a set that is active
and one that is not, with FENCE_DATA_LOST and without; an item whose commit changes the summary and one whose does not;
a calibration, its new mask with a condition standing, in HALT and outside. -/
theorem test_CommitTakenAtTheWriteEnd_applies :
    (let s := writing true (committing3 .st .onRequest)
     awake s = true ∧ s.rts.inFlight = some (metersWrite true) ∧ (metersWrite true).carriesCommit = true ∧
     s.rts.token.commit = some { subject := stagedSet, who := .st } ∧ s.mdc.mode ≠ .halt ∧
     s.rts.token.holder = some (claim .st .onRequest) ∧ s.rts.token.waiting = [] ∧ s.rts.token.silenceDue = false) ∧
    (committing3 .st .whenDone).rts.token.holder = some (claim .st .whenDone) ∧
    (let s := { writing true (inMode .halt) with
       mdc.calStatus := .invalid, rts.token.commit := some { subject := .calibration workedCal, who := .st } }
     s.mdc.mode = .halt ∧ s.mdc.calStatus = .invalid) ∧
    (let s := ending stagedSet .onRequest [claim .tg .whenDone] false work
     s.rts.token.holder = some (claim .st .onRequest) ∧ s.rts.token.waiting ≠ [] ∧ s.lnc.notices.length ≤ 8 ∧
     s.evu.fences.active ≠ some 3) ∧
    (let s := ending stagedSet .onRequest [] true { work with evu.dataLost := true, evu.fences.active := some 3 }
     s.rts.token.silenceDue = true ∧ s.evu.dataLost = true ∧ s.evu.fences.active = some 3) ∧
    [none, some oilItem.defn].map (fun d =>
      let s := { ending (.item 4 d true true) .whenDone [] false (withItem oilItem 12000000) with svu.summary := .clear }
      decide ((after .regionWriteComplete s).svu.summary = s.svu.summary)) = [true, false] ∧
    (let s := ending (.calibration workedCal) .whenDone [] false { work with lnc.pvcSilent := true, rts.cal := masking }
     let u := after .regionWriteComplete s
     calFaultMask workedCal ≠ calFaultMask s.rts.cal ∧ standing s .pvcSilent = true ∧ standing u .pvcSilent = true ∧
     counted s .pvcSilent = false ∧ .pvcSilent ∉ s.lnc.latch ∧ .pvcSilent ∈ u.lnc.latch ∧
     s.mdc.mode ≠ .halt) := by decide +kernel

theorem test_CommitFailsWithItsWrite_applies :
    let s := { writing true (committing3 .st .onRequest) with rts.token.silenceDue := true }
    awake s = true ∧ s.rts.inFlight = some (metersWrite true) ∧ (metersWrite true).carriesCommit = true ∧
    s.rts.token.commit = some { subject := stagedSet, who := .st } ∧ s.rts.token.silenceDue = true := by decide +kernel

/-- Selections in and out of their modes, with FENCE_DATA_LOST and without. -/
theorem test_SelectionAndLock_applies :
    (awake work = true ∧ work.mdc.mode = .working ∧ work.evu.dataLost = false ∧ work.evu.fences.active = none ∧
      work.lnc.replies.length < 8) ∧
    ({ work with evu.dataLost := true } : State).evu.dataLost = true ∧
    ({ work with evu.fences.active := some 3 } : State).evu.fences.active = some 3 ∧
    (inMode .parked).mdc.mode = .parked ∧ (inMode .parked).lnc.notices.length ≤ 8 ∧
    (work.evu.fences.lock ≠ false) := by decide +kernel

theorem test_ServiceModeEnteredAndLeft_applies :
    (awake (inMode .parked) = true ∧ (inMode .parked).mdc.mode = .parked ∧ (inMode .parked).lnc.replies.length < 8) ∧
    (awake (inMode .service) = true ∧ (inMode .service).mdc.mode = .service ∧ (inMode .service).mdc.mode ≠ .parked ∧
      reached (inMode .service).mdc.stSilence 30000 (inMode .service).now = true) := by decide +kernel

/-- A second slot in a state with a running engine at a coolant temperature, a leave cause standing or not. -/
def secondRuns (st : SlotState) (coolant : Int) (leave : Bool) : State :=
  { secondIn st true with
    eeu.slot2.status := some ⟨.running, 1700, coolant, 850, 50, false⟩
    svu.summary := { Summary.clear with singleEngine := leave } }

/-- Restarts with and without a write in flight, in CLOSING, and slots of both roles for every clause of ENGINE_RESET: the
second STOPPED, and running at 39 and at 40 °C, with and without a leave cause, and with one in HALT. -/
theorem test_RestartsAndClears_applies :
    (awake work = true ∧ work.mdc.mode ≠ .closing ∧ work.rts.inFlight = none ∧
      ¬ (work.mdc.resetPending = true ∨ work.mdc.resetWait.isSome = true)) ∧
    (writing false work).rts.inFlight.isSome = true ∧
    ({ work with mdc.resetWait := some 3 } : State).mdc.resetWait.isSome = true ∧
    (let x := slotGet { leadIn .faulted with eeu.slot1.cause := some .silent } .e1
     x.state = .faulted ∧ x.cause = some .silent) ∧
    ((slotGet (leadIn .online) .e1).status.map (·.state) = some .running ∧ (slotGet (leadIn .online) .e1).role = .lead) ∧
    (slotGet work .e1).status = none ∧
    ((slotGet (secondIn .online true) .e2).role = .second ∧ (slotGet (secondIn .online true) .e2).status = none) ∧
    [(39, false), (40, false), (40, true)].map (fun x =>
      let u := after (.engineReset .st) (secondRuns .joining x.1 x.2)
      ((slotGet (secondRuns .joining x.1 x.2) .e2).role, leaveCause u, (slotGet u .e2).state)) =
      [(.second, false, .warming), (.second, false, .ready), (.second, true, .cooldown)] ∧
    (let s := { secondRuns .faulted 40 true with mdc.mode := .halt }
     leaveCause (after (.engineReset .st) s) = true ∧ (slotGet s .e2).cause ≠ some .silent ∧
     (slotGet (after (.engineReset .st) s) .e2).state = .ready) := by
  decide +kernel

theorem test_GradeTruckAndIdleHold_applies :
    (awake work = true ∧ work.mdc.mode ≠ .start ∧ work.lnc.replies.length < 8 ∧ work.gmu.grade = none ∧
      work.plu.truck = none ∧ work.mdc.mode ≠ .closing) ∧
    (let g : Grade := { zRef := -2000, slope := 100, xRef := 8000, stop := true, margin := 1000 }
     ({ work with gmu.grade := some g } : State).gmu.grade = some g ∧ 2 ≤ 2 ∧ 1 ≤ 1) ∧
    ({ work with plu.truck := some aTruck } : State).plu.truck = some aTruck ∧
    ([Restriction.slewCreep, .none].map fun r =>
      oneMore (.truckDone .cdt) (oneShort .passes r { work with plu.truck := some aTruck })) =
      [(some (.overdue, false), true, true), (some (.overdue, false), false, true)] ∧
    work.svu.items = Vector.replicate 32 none ∧ (inMode .closing).mdc.mode = .closing ∧
    ({ work with eeu.ladder := .lowIdle } : State).eeu.ladder = .lowIdle := by decide +kernel

/-- A change and no change; the codes beside the three modes. -/
theorem test_SettingsLiveAtOnce_applies :
    awake work = true ∧ work.mdc.mode ≠ .start ∧ work.lnc.replies.length < 8 ∧
    ({ work.eeu.settings with mode := .peak } ≠ work.eeu.settings) ∧
    ({ work.eeu.settings with mode := .standard } = work.eeu.settings) ∧
    PowerMode.peak ≠ .warmup ∧ (0 = 0 ∨ 4 ≤ 0) ∧ (4 = 0 ∨ 4 ≤ 4) := by decide +kernel

/-- An EMPTY entry, an OK item, one that is not, one with its extension spent; the CDT with and without permission. -/
theorem test_ItemCommands_applies :
    (awake burning = true ∧ burning.mdc.mode ≠ .start ∧ burning.lnc.replies.length < 8 ∧ itemAt burning 31 = none ∧
      32 ≤ 32) ∧
    (itemAt (withItem oilItem 0) 4 = some oilItem ∧ oilItem.state = .ok ∧ oilItem.extUsed = false) ∧
    itemAt (withItem { oilItem with state := .due, extUsed := true } 11800000) 4 =
      some { oilItem with state := .due, extUsed := true } ∧
    oneMore (.serviceDone .tg 4) (oneShort .fuel .none burning) = (some (.ok, false), false, true) ∧
    (let s := withItem { oilItem with state := .overdue } 12000000
     oneMore (.serviceDone .tg 4) { s with svu.summary := summaryOf s.svu.items } = (some (.ok, false), true, true)) ∧
    calField { workedCal with fields := workedCal.fields.set 50 1 } 50 = 1 ∧ Master.tg ≠ .cdt := by decide +kernel

theorem test_MeterWriteAndSetClock_applies :
    awake work = true ∧ work.mdc.mode ≠ .start ∧ work.lnc.replies.length < 8 ∧ 10 ≤ 10 ∧
    meterGet work.svu.meters .fuel ≠ min 99999999 100000000 ∧ Master.tg ≠ .cdt ∧
    ([(Restriction.slewCreep, 100), (.slewCreep, 99)].map fun x => oneMore (.meterWrite .st 4 x.2) (oneShort .fuel x.1 work)) =
      [(some (.overdue, false), true, true), (some (.ok, true), false, true)] := by decide +kernel

/-- Distances at every clause's edge: 0, 1, one below the margin, the margin; inside a sector at a tie, outside at its
end; both validity parts INVALID. -/
theorem test_CapGrowsWithTheDistance_applies :
    (100 ≤ 1500 ∧ 5 ≤ 20 ∧ 20 ≤ 50) ∧ ((0 : Int) ≤ 0) ∧ ((0 : Int) < 1 ∧ (1 : Int) < 1500) ∧
    ((0 : Int) < 1499 ∧ (1499 : Int) < 1500) ∧ ((1500 : Int) ≤ 1500) ∧
    (let p := (after .poseTimer sensed).gmu.pose
     p.plane ≠ .invalid ∧ p.slew ≠ .invalid ∧ p.coords.isSome = true ∧ p.sigma = some 17990 ∧
     inSector 17990 ⟨9000, 17990⟩ = false ∧ inSector 17990 ⟨9000, 26980⟩ = true ∧
     ((26980 : Int) - 17990) % 36000 ≤ (17990 - 9000) % 36000 ∧ planarDistance .ceiling 8099 ((p.coords).getD (publishCoords ⟨0, 0, 0, 0, 0, 0⟩)) < 1500 ∧
     planarDistance .ceiling 6600 ((p.coords).getD (publishCoords ⟨0, 0, 0, 0, 0, 0⟩)) = 0 ∧
     planarDistance .ceiling 6601 ((p.coords).getD (publishCoords ⟨0, 0, 0, 0, 0, 0⟩)) = 1) ∧
    (let p := (after .poseTimer { sensed with siu := .reset }).gmu.pose
     p.plane = .invalid ∧ p.slew = .invalid) := by
  decide +kernel

/-- A part with caps formed above what is granted, and a commit of the queue's own kind, whose step is a next state. -/
def formed : State := formCaps { work with evu.caps := perFnOf fun _ => { CapRow.reset with fence := 54 } }

/-- The caps are formed and each stands above what is granted. -/
theorem test_StepKeepsTheCapTableFormed_applies :
    CapsFormed formed ∧ HaltOk formed ∧ step formed = .next (tick formed) ∧
    HaltOk { State.reset with mdc.mode := .halt } :=
  ⟨by intro f; cases f <;> decide +kernel, fun h => absurd h (by decide +kernel), rfl, fun _ => rfl⟩

/-- The grant record made current by an event, with its list. -/
def granted : State := after .noticeSpacingElapsed { work with lnc.lastNotice := some 999990 }

/-- Both engines ONLINE in WORKING, the economy made current by an event of the link. -/
def economical : State := after (.frameTransmit .s) (bothOnline 500)

/-- Each speed a slot may be asked for is decided by its state. -/
theorem test_economical_current : EconomyCurrent economical := by
  refine fun _ => ⟨by decide +kernel, by decide +kernel, fun e => ⟨?_, fun _ => ?_⟩⟩
  · cases e <;> exact fun h => absurd h (by decide +kernel)
  · cases e <;> exact ⟨{ ask := .none, speed := 1700 }, by decide +kernel, by unfold IsSetpoint; decide +kernel,
      by decide +kernel⟩

/-- In START the effective mode stays WARMUP at 30 °C (R177), and after loading the same oil leaves it. -/
theorem test_start_stays_at_warmup :
    (after (.pvcState 0 1 30 0 false false) State.reset).eeu.effective = .warmup ∧
    (after (.pvcState 0 1 30 0 false false) work).eeu.effective = .standard := by decide +kernel

/-- The ladder is in form with no countdown, and with one that a running engine's no-stop flag holds at 0. -/
theorem test_LadderOk_of_a_held_countdown : LadderOk work ∧ LadderOk (counting 0 100000 true) := by
  refine ⟨fun _ => ⟨by decide +kernel, fun c h => ?_⟩, fun _ => ⟨by decide +kernel, fun _ _ _ =>
    ⟨.e1, by decide +kernel, by decide +kernel, ⟨.running, 1700, 80, 1200, 50, true⟩, rfl, rfl, rfl⟩⟩⟩
  rw [show work.eeu.countdown = none from rfl] at h
  exact nomatch h

theorem test_StepKeepsTheGrantRecord_applies :
    (LadderOk (counting 0 100000 true) ∧ step (counting 0 100000 true) = .next (tick (counting 0 100000 true))) ∧
    (EconomyCurrent economical ∧ step economical = .next (tick economical)) ∧
    GrantCurrent granted ∧ GrantListOk granted ∧ granted.evu.grant.seq = 1 ∧ step granted = .next (tick granted) := by
  refine ⟨⟨test_LadderOk_of_a_held_countdown.2, rfl⟩, ⟨test_economical_current, rfl⟩, fun _ => by decide +kernel, ⟨by decide +kernel, by decide +kernel, by decide +kernel, ?_⟩, by decide +kernel,
    rfl⟩
  have h : granted.evu.outstanding.getLast? = some (1, 1000000) := by decide +kernel
  intro e he
  rw [h] at he
  cases he
  decide +kernel

/-- A full notice queue, a save asked for, and the token held with both others waiting. -/
def queued : State :=
  { tokenState (claim .cdt .whenDone) [claim .st .onRequest, claim .tg .whenDone] with
    rts.pendingSave := [.meters, .fences]
    lnc.notices := (List.range 24).map fun k =>
      { kind := .itemState, subject := k, severity := .warn, value := none, stamp := none } }

theorem test_StepKeepsTheQueuesAndTheToken_applies :
    (let s := { work with pending := [.saveTimer] }
     step s = .next (after .saveTimer work) ∧ s.rts.inFlight = none ∧
     (after .saveTimer work).rts.inFlight.map (fun w => regionOf w.content) = some .meters) ∧
    NoticesOk queued ∧ SavesOk queued ∧ TokenOk queued ∧ step queued = .next (tick queued) := by
  refine ⟨⟨rfl, by decide +kernel, by decide +kernel⟩, ⟨by decide +kernel, by decide +kernel⟩,
    by unfold SavesOk; decide +kernel, ?_, rfl⟩
  refine ⟨by decide +kernel, fun h e => ?_, fun e => ?_, by decide +kernel⟩
  · cases e; decide +kernel
  · exact absurd e (by decide +kernel)

/-- Frames as the part sends them, written out from R182: grant 258 (its low byte 2) with caps 0, 1, 100 and the rest 0;
a start of E2 at 900 rpm; the second frame of a pose with deviation -2 and slew 359.99°, both parts INVALID and no
coordinates; a notice of item 5 DUE at
10 s past midnight; a reply whose detail is clamped; a RECORD of five bytes. -/
theorem test_sent_frames :
    [ TxFrame.grantCaps 258 ⟨0, 1, 100, 0, 0, 0, 0, 0⟩, .engineRequest .e2 { ask := .start, speed := 900 },
      .poseReport1 { Pose.reset with seq := 130, deviation := some (-2), sigma := some 35999 },
      .notice { kind := .itemState, subject := 5, severity := .warn, value := some 2, stamp := some 86410 },
      .reply 24 .acceptedClamped (some 70000) .tg, .record .st 1 3 [1, 2, 3, 4, 5] ].map
      (fun f => (f.identifier, f.bytes)) =
    [ (0x021, [2, 0x00, 0x07, 0x20, 0x00, 0x00, 0x00, 0x00]), (0x061, [2, 1, 0x03, 0x84]),
      (0x141, [0x82, 0xFF, 0xFE, 0x8C, 0x9F, 0, 0, 0x0F]), (0x181, [0x66, 0, 5, 0, 0, 2, 0, 5]),
      (0x291, [24, 1, 0xFF, 0xFF, 6]), (0x2A1, [7, 1, 3, 1, 2, 3, 4, 5]) ] := by decide +kernel

/-- A frame for a well-formed command of each link; caps, a signed coordinate and a detail at the edges of the fields. -/
theorem test_FramesReadBack_applies :
    (perFnGet (⟨0, 1, 100, 0, 0, 0, 0, 127⟩ : PerFn Nat) .slewRight < 128 ∧ -32768 ≤ (-32768 : Int) ∧
      (32767 : Int) ≤ 32767 ∧ Pose.reset.coords = none ∧ 35999 < 36000 ∧ (-1 : Int) < 0) ∧
    [ Instr.sensorSample .slewEnc 35999 0 15 true, .pvcState 65535 1 215 255 true false, .fenceSector .cdt 7 1 35999 0,
      .unknownCommand .st 1, .unknownCommand .tg 255, .itemWrite .st 6 (-1) ].all
      (fun i => i.wellFormed && (encodeFrame i).isSome) = true := by decide +kernel

end Sys2Proof.Tests
end

section
/-! PROOFS. The rounded quotient of R40, R55 and R68, saturation, and the interpolation of R66. -/

namespace Sys2Proof.Proofs

open Sys2Proof Sys2Proof.Machine

/-! ### The rounded quotient -/

/-- The two bounds that a floor division gives, with the product named. -/
theorem floor_bounds (a : Int) {d : Int} (hd : 0 < d) : a / d * d ≤ a ∧ a < a / d * d + d :=
  ⟨Int.ediv_mul_le a hd.ne', by have := Int.lt_ediv_add_one_mul_self a hd; rwa [Int.add_mul, Int.one_mul] at this⟩

theorem roundDiv_of_nonneg {p : Int} (hp : 0 ≤ p) (d : Nat) : roundDiv p d = (p + (d / 2 : Nat)) / d := if_pos hp

theorem roundDiv_of_neg {p : Int} (hp : p < 0) (d : Nat) : roundDiv p d = -((-p + (d / 2 : Nat)) / d) :=
  if_neg (by omega)

/-- The rounded quotient is nearest, and of two nearest integers the one farther from zero. -/
theorem rounds_roundDiv (p : Int) {d : Nat} (hd : 0 < d) : Rounds (roundDiv p d) p d := by
  have hd' : (0 : Int) < d := by omega
  unfold Rounds
  rcases Int.lt_or_le p 0 with hp | hp
  · rw [roundDiv_of_neg hp, Int.neg_mul]
    obtain ⟨hle, hlt⟩ := floor_bounds (-p + (d / 2 : Nat)) hd'
    generalize (-p + (d / 2 : Nat)) / (d : Int) * d = z at hle hlt ⊢
    omega
  · rw [roundDiv_of_nonneg hp]
    obtain ⟨hle, hlt⟩ := floor_bounds (p + (d / 2 : Nat)) hd'
    generalize (p + (d / 2 : Nat)) / (d : Int) * d = z at hle hlt ⊢
    omega

/-- The sign of a negative product is restored. -/
theorem unscale_neg (p : Int) : unscale (-p) = -unscale p := by
  unfold unscale
  rcases Int.lt_trichotomy p 0 with hp | rfl | hp
  · rw [roundDiv_of_nonneg (by omega), roundDiv_of_neg hp, Int.neg_neg]
  · rfl
  · rw [roundDiv_of_neg (by omega), roundDiv_of_nonneg (by omega), Int.neg_neg]

theorem unscale_of_nonneg {p : Int} (hp : 0 ≤ p) : unscale p = (p + 8192) / 16384 := roundDiv_of_nonneg hp 16384

/-- Settles O54: the product's sign is split off, and on what is left the rounding is a floor division. -/
theorem unscaleRoundsHalvesAwayFromZero : Obligations.UnscaleRoundsHalvesAwayFromZero := by
  refine ⟨fun p => ⟨fun hp => ?_, unscale_neg p⟩, by decide, by decide, by decide, fun c b st k p => rfl⟩
  rw [unscale_of_nonneg hp]
  omega

/-! ### Saturation and clamping -/

/-- A clamp within ordered bounds, as R45 states it: the bound that the value lies beyond, else the value. -/
theorem saturate_eq (v : Int) : saturate v = if 32767 < v then 32767 else if v < -32767 then -32767 else v := by
  unfold saturate clampInt
  omega

theorem saturate_ne_iff (v : Int) : saturate v ≠ v ↔ v < -32767 ∨ 32767 < v := by
  unfold saturate clampInt
  omega

/-! ### Interpolation -/

/-- The segment of a table that a value lies in is the floor of its distance from the first point over the step. -/
theorem segment_of_bounds {x0 a : Int} {step i : Nat} (hs : 0 < step) (hlo : x0 + i * step ≤ a)
    (hhi : a < x0 + (i + 1) * step) : ((a - x0) / step).toNat = i := by
  have hi : (a - x0) / (step : Int) = i :=
    (Int.ediv_eq_iff_of_pos (by omega)).2 ⟨by omega, by rw [Int.add_mul] at hhi; omega⟩
  omega

theorem interpolate_of_le (v : Nat → Int) {x0 a : Int} (step : Nat) (h : a ≤ x0) : interpolate v x0 step a = v 0 :=
  if_pos h

theorem interpolate_of_top_le (v : Nat → Int) {x0 a : Int} {step : Nat} (hs : 0 < step) (h : x0 + 8 * step ≤ a) :
    interpolate v x0 step a = v 8 := by
  unfold interpolate
  rw [if_neg (by omega), if_pos h]

/-- Between two points of the table: at the lower one the value itself, since nothing is left to divide. -/
theorem interpolate_of_segment (v : Nat → Int) {x0 a : Int} {step i : Nat} (hs : 0 < step) (hi : i < 8)
    (hlo : x0 + i * step ≤ a) (hhi : a < x0 + (i + 1) * step) :
    interpolate v x0 step a = v i + Int.tdiv ((v (i + 1) - v i) * (a - (x0 + i * step))) step := by
  have hseg := segment_of_bounds hs hlo hhi
  have htop : ((i : Int) + 1) * step ≤ 8 * step := Int.mul_le_mul_of_nonneg_right (by omega) (by omega)
  have hbase : (0 : Int) ≤ i * step := Int.mul_nonneg (by omega) (by omega)
  unfold interpolate
  split
  case isTrue h =>
    obtain rfl : i = 0 := by
      by_contra hne
      have : (1 : Int) * step ≤ i * step := Int.mul_le_mul_of_nonneg_right (by omega) (by omega)
      omega
    obtain rfl : a = x0 := by simpa using Int.le_antisymm h (by simpa using hlo)
    simp
  case isFalse h => rw [if_neg (by omega)]; simp only [hseg]; rfl

end Sys2Proof.Proofs
end

section
/-! PROOFS. The notice queue under the notices of an event (R188): what may be raised by an operation, the room that the
queue keeps, and that a notice once raised waits until one of its own kind and subject is raised. -/

namespace Sys2Proof.Proofs

open Sys2Proof Sys2Proof.Machine Sys2Proof.Laws

/-! ### One notice -/

/-- What a notice is kept by: two notices with one key share a queue entry. -/
def noticeKey (n : Notice) : NoticeKind × Nat := (n.kind, n.subject)

/-- The queue after one notice. -/
def raised (q : List Notice) (n : Notice) : List Notice := (enqueueNotice q n).1

/-- The queue has room for one entry for each listed key that it does not hold. -/
def Room (ks : List (NoticeKind × Nat)) (q : List Notice) : Prop :=
  q.length + (ks.filter fun k => k ∉ q.map noticeKey).length ≤ 24

theorem sameNotice_iff (a b : Notice) : sameNotice a b = true ↔ noticeKey b = noticeKey a := by
  simp only [sameNotice, noticeKey, Bool.and_eq_true, beq_iff_eq, Prod.mk.injEq]
  exact and_congr eq_comm eq_comm

theorem raised_of_mem {q : List Notice} {n : Notice} (h : noticeKey n ∈ q.map noticeKey) :
    raised q n = q.map fun e => if noticeKey e = noticeKey n then n else e := by
  have hany : q.any (sameNotice n) = true := by simpa [sameNotice_iff] using h
  simp [raised, enqueueNotice, hany, sameNotice_iff]

theorem raised_of_not_mem {q : List Notice} {n : Notice} (h : noticeKey n ∉ q.map noticeKey) (hq : q.length < 24) :
    raised q n = q ++ [n] := by
  have hany : q.any (sameNotice n) = false := by simpa [sameNotice_iff] using h
  simp [raised, enqueueNotice, hany, hq]

/-- A queue with room for the key of a notice that it does not hold is not full. -/
theorem Room.length_lt {ks : List (NoticeKind × Nat)} {q : List Notice} {n : Notice} (hr : Room ks q)
    (hk : noticeKey n ∈ ks) (hn : noticeKey n ∉ q.map noticeKey) : q.length < 24 := by
  have : 0 < (ks.filter fun k => k ∉ q.map noticeKey).length :=
    List.length_pos_of_mem (List.mem_filter.2 ⟨hk, by simpa using hn⟩)
  unfold Room at hr
  omega

theorem map_noticeKey_raised_of_mem {q : List Notice} {n : Notice} (h : noticeKey n ∈ q.map noticeKey) :
    (raised q n).map noticeKey = q.map noticeKey := by
  rw [raised_of_mem h, List.map_map]
  refine List.map_congr_left fun e _ => ?_
  by_cases he : noticeKey e = noticeKey n <;> simp [he]

/-- The key of a notice that joins the queue is one fewer to keep room for. -/
theorem filter_length_lt {ks ns : List (NoticeKind × Nat)} {k : NoticeKind × Nat} (hk : k ∈ ks) (hn : k ∉ ns) :
    (ks.filter fun x => x ∉ ns ++ [k]).length < (ks.filter fun x => x ∉ ns).length := by
  have hsplit : (ks.filter fun x => x ∉ ns ++ [k]) = (ks.filter fun x => x ∉ ns).filter fun x => x ≠ k := by
    rw [List.filter_filter]
    exact List.filter_congr fun x _ => by simp [and_comm]
  rw [hsplit, List.length_filter_lt_length_iff_exists]
  exact ⟨k, List.mem_filter.2 ⟨hk, by simpa using hn⟩, by simp⟩

theorem Room.raise {ks : List (NoticeKind × Nat)} {q : List Notice} {n : Notice} (hr : Room ks q)
    (hk : noticeKey n ∈ ks) : Room ks (raised q n) := by
  by_cases hn : noticeKey n ∈ q.map noticeKey
  · have hlen : (raised q n).length = q.length := by simp [raised_of_mem hn]
    unfold Room
    rwa [map_noticeKey_raised_of_mem hn, hlen]
  · have hlt := filter_length_lt hk hn
    unfold Room at hr ⊢
    rw [raised_of_not_mem hn (Room.length_lt hr hk hn)]
    simp only [List.map_append, List.length_append, List.map_cons, List.map_nil, List.length_cons, List.length_nil]
    omega

/-- Notices already in a queue with room stay there but for one with the key raised. -/
theorem mem_raised_of_ne {ks : List (NoticeKind × Nat)} {q : List Notice} {n e : Notice} (hr : Room ks q)
    (hk : noticeKey n ∈ ks) (he : e ∈ q) (hne : noticeKey e ≠ noticeKey n) : e ∈ raised q n := by
  by_cases hn : noticeKey n ∈ q.map noticeKey
  · rw [raised_of_mem hn]
    exact List.mem_map.2 ⟨e, he, if_neg hne⟩
  · rw [raised_of_not_mem hn (hr.length_lt hk hn)]
    exact List.mem_append_left _ he

theorem mem_raised_self {ks : List (NoticeKind × Nat)} {q : List Notice} {n : Notice} (hr : Room ks q)
    (hk : noticeKey n ∈ ks) : n ∈ raised q n := by
  by_cases hn : noticeKey n ∈ q.map noticeKey
  · obtain ⟨e, he, hkey⟩ := List.mem_map.1 hn
    rw [raised_of_mem hn]
    exact List.mem_map.2 ⟨e, he, if_pos hkey⟩
  · rw [raised_of_not_mem hn (hr.length_lt hk hn)]
    simp

/-! ### The notices of an operation -/

/-- The operation that leads from `s` to `t` raises notices with the listed keys only, and touches the queue in no
other way. -/
def Raises (ks : List (NoticeKind × Nat)) (s t : State) : Prop :=
  ∃ ns : List Notice, (∀ n ∈ ns, noticeKey n ∈ ks) ∧ t.lnc.notices = ns.foldl raised s.lnc.notices

theorem Raises.of_eq {ks : List (NoticeKind × Nat)} {s t : State} (h : t.lnc.notices = s.lnc.notices) :
    Raises ks s t := ⟨[], by simp, h⟩

theorem Raises.refl (ks : List (NoticeKind × Nat)) (s : State) : Raises ks s s := .of_eq rfl

theorem Raises.trans {ks : List (NoticeKind × Nat)} {s t u : State} (h : Raises ks s t) (h' : Raises ks t u) :
    Raises ks s u := by
  obtain ⟨ns, hns, ht⟩ := h
  obtain ⟨ns', hns', hu⟩ := h'
  refine ⟨ns ++ ns', fun n hn => ?_, by rw [hu, ht, List.foldl_append]⟩
  exact (List.mem_append.1 hn).elim (hns n) (hns' n)

theorem Raises.mono {ks ks' : List (NoticeKind × Nat)} {s t : State} (h : Raises ks s t) (hs : ks ⊆ ks') :
    Raises ks' s t := by
  obtain ⟨ns, hns, ht⟩ := h
  exact ⟨ns, fun n hn => hs (hns n hn), ht⟩

theorem raises_notify {ks : List (NoticeKind × Nat)} {k : NoticeKind} {n : Nat} (h : (k, n) ∈ ks) (v : Severity)
    (x : Option Nat) (s : State) : Raises ks s (notify k n v x s) :=
  ⟨[{ kind := k, subject := n, severity := v, value := x, stamp := s.clock.time }], by simpa [noticeKey] using h, rfl⟩

/-- A conditional operation raises no more than each of its branches. -/
theorem raises_ite {ks : List (NoticeKind × Nat)} {s t u : State} {c : Prop} [Decidable c] (ht : Raises ks s t)
    (hu : Raises ks s u) : Raises ks s (if c then t else u) := by
  split <;> assumption

/-- What the notices of an operation do to a queue with room for them: the room is kept, and an entry with a key that
the operation does not raise stays. -/
theorem foldl_raised_room {ks : List (NoticeKind × Nat)} (ns : List Notice) {q : List Notice} (hr : Room ks q)
    (hns : ∀ n ∈ ns, noticeKey n ∈ ks) :
    Room ks (ns.foldl raised q) ∧ ∀ e ∈ q, (∀ n ∈ ns, noticeKey e ≠ noticeKey n) → e ∈ ns.foldl raised q := by
  induction ns generalizing q with
  | nil => exact ⟨hr, fun e he _ => he⟩
  | cons n ns ih =>
    have hn : noticeKey n ∈ ks := hns n (by simp)
    obtain ⟨hroom, hkeep⟩ := ih (hr.raise hn) fun m hm => hns m (by simp [hm])
    exact ⟨hroom, fun e he hne =>
      hkeep e (mem_raised_of_ne hr hn he (hne n (by simp))) fun m hm => hne m (by simp [hm])⟩

theorem Raises.room {ks ks' : List (NoticeKind × Nat)} {s t : State} (h : Raises ks' s t) (hs : ks' ⊆ ks)
    (hr : Room ks s.lnc.notices) : Room ks t.lnc.notices := by
  obtain ⟨ns, hns, ht⟩ := h
  rw [ht]
  exact (foldl_raised_room ns hr fun n hn => hs (hns n hn)).1

/-- A notice waits on through an operation that raises none with its key. -/
theorem noticeWaits_of_raises {ks ks' : List (NoticeKind × Nat)} {k : NoticeKind} {n : Nat} {v : Severity}
    {x : Option Nat} {s t : State} (hw : NoticeWaits k n v x s) (h : Raises ks' s t) (hs : ks' ⊆ ks)
    (hr : Room ks s.lnc.notices) (hk : (k, n) ∉ ks') : NoticeWaits k n v x t := by
  obtain ⟨e, he, rfl, rfl, hsev, hval⟩ := hw
  obtain ⟨ns, hns, ht⟩ := h
  refine ⟨e, ?_, rfl, rfl, hsev, hval⟩
  rw [ht]
  refine (foldl_raised_room ns hr fun m hm => hs (hns m hm)).2 e he fun m hm heq => hk ?_
  exact (show noticeKey m = (e.kind, e.subject) from heq.symm) ▸ hns m hm

theorem noticeWaits_notify {ks : List (NoticeKind × Nat)} {k : NoticeKind} {n : Nat} (v : Severity) (x : Option Nat)
    {s : State} (hr : Room ks s.lnc.notices) (hk : (k, n) ∈ ks) : NoticeWaits k n v x (notify k n v x s) :=
  ⟨_, mem_raised_self hr (n := { kind := k, subject := n, severity := v, value := x, stamp := s.clock.time }) hk,
    rfl, rfl, rfl, rfl⟩

end Sys2Proof.Proofs
end

section
/-! PROOFS. What the end of an event leaves and raises, and what increments do to meters, remainders, pending sums and
saves (R163, R164, R194). -/

namespace Sys2Proof.Proofs

open Sys2Proof Sys2Proof.Machine Sys2Proof.Laws

/-! ### The end of an event -/

/-- An event's end but for the link controllers, which take their first frames last. -/
def settled (s0 s : State) : State := beginWrite (latchArisen s0 (issueGrant (settleRequests (eeuSettle s))))

theorem event_of_due {s : State} {due : Bool} (effect : State → State) (ha : awake s = true) (hd : due = true) :
    event s due effect = linkSettle (settled s (effect s)) := by
  simp [event, ha, hd, endEvent, settled]

@[simp] theorem settled_frame (s0 s : State) :
    (settled s0 s).now = s.now ∧ (settled s0 s).clock = s.clock ∧ (settled s0 s).siu = s.siu ∧
    (settled s0 s).gmu = s.gmu ∧ (settled s0 s).plu = s.plu ∧ (settled s0 s).svu.meters = s.svu.meters ∧
    (settled s0 s).svu.fuelRem = s.svu.fuelRem ∧ (settled s0 s).svu.payloadRem = s.svu.payloadRem ∧
    (settled s0 s).svu.slewRem = s.svu.slewRem ∧ (settled s0 s).svu.sums = s.svu.sums ∧
    (settled s0 s).svu.items = s.svu.items ∧ (settled s0 s).svu.summary = s.svu.summary := by
  simp [settled]

/-- A save asked for in the event waits, or its write is the one that the end of the event begins. -/
theorem saveAsked_beginWrite {r : Region} {s : State} (h : r ∈ s.rts.pendingSave) : SaveAsked r (beginWrite s) := by
  unfold beginWrite
  split
  case h_1 x rest _ hp =>
    split
    case isFalse => exact .inl h
    case isTrue =>
      rw [hp] at h
      rcases List.mem_cons.1 h with rfl | hrest
      · refine .inr ⟨_, rfl, ?_, rfl⟩
        cases r <;> simp only [regionWrite, formContent] <;> (repeat' split) <;> rfl
      · exact .inl hrest
  case h_2 => exact .inl h

theorem saveAsked_settled {r : Region} (s0 : State) {s : State} (h : r ∈ s.rts.pendingSave) :
    SaveAsked r (settled s0 s) := saveAsked_beginWrite (by simpa using h)

/-! ### The notices of the end of an event -/

/-- The keys of the notices of the two engine slots. -/
def slotKeys : List (NoticeKind × Nat) := [(.engineSlot, 1), (.engineSlot, 2)]

/-- The keys of the notices that the end of an event may raise. -/
def settleKeys : List (NoticeKind × Nat) := (.powerMode, 0) :: (.idleState, 0) :: slotKeys

theorem raises_enterSlot (e : Engine) (st : SlotState) (s : State) : Raises slotKeys s (enterSlot e st s) := by
  have hset : Raises slotKeys s (slotSet e { slotGet s e with
      state := st, timer := if timedState st then some s.now else none
      retry := if st = .faulted then none else (slotGet s e).retry, cause := none } s) := .of_eq (by simp)
  exact hset.trans (raises_notify (by cases e <;> simp [slotKeys, engineNumber]) _ _ _)

theorem raises_slotStep (e : Engine) (s : State) : Raises slotKeys s (slotStep e s) := by
  unfold slotStep
  split
  · exact raises_enterSlot e _ s
  · exact .refl _ s

theorem raises_slotRound (s : State) : Raises slotKeys s (slotRound s) :=
  ((Raises.of_eq rfl : Raises slotKeys s (settleHolds s)).trans (raises_slotStep .e1 _)).trans
    ((Raises.of_eq rfl : Raises slotKeys _ (settleHolds _)).trans (raises_slotStep .e2 _))

theorem raises_slotRounds (n : Nat) (s : State) : Raises slotKeys s (Nat.repeat slotRound n s) := by
  induction n with
  | zero => exact .refl _ s
  | succ n ih => exact ih.trans (raises_slotRound _)

theorem raises_shutDownSlot (e : Engine) (s : State) : Raises slotKeys s (shutDownSlot e s) := by
  unfold shutDownSlot
  (repeat' split) <;> simp only [raises_enterSlot, Raises.refl]

theorem slotKeys_subset_settleKeys : slotKeys ⊆ settleKeys := by simp [slotKeys, settleKeys]

theorem raises_setLadder_shutDown (s : State) : Raises settleKeys s (setLadder .shutDown s) := by
  unfold setLadder
  refine raises_ite (.refl _ s) ?_
  have hidle : Raises settleKeys s (notify .idleState 0 .warn (some (ladderCode .shutDown))
      (ladderTimersFor .shutDown { s with eeu.ladder := .shutDown })) :=
    (Raises.of_eq rfl).trans (raises_notify (by simp [settleKeys]) _ _ _)
  exact hidle.trans (((raises_shutDownSlot .e1 _).trans (raises_shutDownSlot .e2 _)).mono slotKeys_subset_settleKeys)

theorem raises_settleCountdown (s : State) : Raises settleKeys s (settleCountdown s) := by
  unfold settleCountdown
  split
  · exact raises_ite (raises_setLadder_shutDown s) (.refl _ s)
  · exact .refl _ s

theorem raises_settleMode (s : State) : Raises settleKeys s (settleMode s) :=
  raises_ite (.refl _ s) ((Raises.of_eq rfl).trans (raises_notify (by simp [settleKeys]) _ _ _))

theorem raises_eeuSettle (s : State) : Raises settleKeys s (eeuSettle s) :=
  ((raises_settleMode s).trans (raises_settleCountdown _)).trans
    (((raises_slotRounds 4 _).mono slotKeys_subset_settleKeys).trans (.of_eq rfl))

theorem raises_settled (s0 s : State) : Raises settleKeys s (settled s0 s) :=
  (raises_eeuSettle s).trans (.of_eq (by simp [settled]))

/-! ### Increments -/

theorem increment_of_loaded {s : State} (h : s.svu.loaded = true) (m : Meter) (n : Nat) :
    increment m n s = applyIncrement m n s := if_pos h

theorem increment_of_not_loaded {s : State} (h : s.svu.loaded = false) (m : Meter) (n : Nat) :
    increment m n s = { s with svu.sums := meterSet s.svu.sums m (meterGet s.svu.sums m + n) } :=
  if_neg (by simp [h])

theorem applyIncrement_of_top {s : State} {m : Meter} (h : meterGet s.svu.meters m = meterTop) (n : Nat) :
    applyIncrement m n s = s := if_pos h

theorem applyIncrement_of_ne_top {s : State} {m : Meter} (h : meterGet s.svu.meters m ≠ meterTop) (n : Nat) :
    applyIncrement m n s = addMeter m ((remainderGet s m + n) / carryUnit m)
      (remainderSet m ((remainderGet s m + n) % carryUnit m) s) := if_neg h

/-- A set remainder reads back; a meter of unit 1 has none to set. -/
theorem remainderGet_remainderSet (m k : Meter) (v : Nat) (s : State) :
    remainderGet (remainderSet m v s) k = if k = m ∧ carryUnit m ≠ 1 then v else remainderGet s k := by
  cases m <;> cases k <;> rfl

theorem addMeter_meters (m : Meter) (n : Nat) (s : State) :
    (addMeter m n s).svu.meters = meterSet s.svu.meters m (min meterTop (meterGet s.svu.meters m + n)) :=
  setMeter_meters m _ s

theorem remainderGet_addMeter (m k : Meter) (n : Nat) (s : State) :
    remainderGet (addMeter m n s) k = remainderGet s k := by
  cases k <;> simp [remainderGet]

/-- A meter after an increment to it or to another one (R163, R164). -/
theorem meterGet_increment (m k : Meter) (n : Nat) (s : State) :
    meterGet (increment m n s).svu.meters k = if k = m then meterAfter s m n else meterGet s.svu.meters k := by
  unfold meterAfter
  cases hl : s.svu.loaded
  case false => rw [increment_of_not_loaded hl]; by_cases hk : k = m <;> simp [hk]
  case true =>
    rw [increment_of_loaded hl]
    by_cases ht : meterGet s.svu.meters m = meterTop
    · rw [applyIncrement_of_top ht]; by_cases hk : k = m <;> simp [hk, ht]
    · rw [applyIncrement_of_ne_top ht, addMeter_meters]; simp [ht]

/-- A remainder after an increment to its meter or to another one (R163). -/
theorem remainderGet_increment (m k : Meter) (n : Nat) (s : State) :
    remainderGet (increment m n s) k = if k = m then remainderAfter s m n else remainderGet s k := by
  unfold remainderAfter
  cases hl : s.svu.loaded
  case false =>
    have hsame : remainderGet (increment m n s) k = remainderGet s k := by
      rw [increment_of_not_loaded hl]; cases k <;> rfl
    rw [hsame]; by_cases hk : k = m <;> simp [hk]
  case true =>
    rw [increment_of_loaded hl]
    by_cases ht : meterGet s.svu.meters m = meterTop
    · rw [applyIncrement_of_top ht]; by_cases hk : k = m <;> simp [hk, ht]
    · rw [applyIncrement_of_ne_top ht, remainderGet_addMeter, remainderGet_remainderSet]
      by_cases hk : k = m <;> by_cases hc : carryUnit m = 1 <;> simp [hk, hc, ht]

/-- A pending sum after an increment to its meter or to another one (R164). -/
theorem meterGet_sums_increment (m k : Meter) (n : Nat) (s : State) :
    meterGet (increment m n s).svu.sums k =
      meterGet s.svu.sums k + if k = m then (if s.svu.loaded then 0 else n) else 0 := by
  cases hl : s.svu.loaded
  case false => rw [increment_of_not_loaded hl]; by_cases hk : k = m <;> simp [hk]
  case true =>
    rw [increment_of_loaded hl]
    by_cases ht : meterGet s.svu.meters m = meterTop
    · rw [applyIncrement_of_top ht]; simp
    · rw [applyIncrement_of_ne_top ht]; simp

/-! ### Meters that an operation leaves alone -/

/-- The meter `m` with its remainder and its pending sum is as it was. -/
def MeterKept (m : Meter) (s t : State) : Prop :=
  meterGet t.svu.meters m = meterGet s.svu.meters m ∧ remainderGet t m = remainderGet s m ∧
    meterGet t.svu.sums m = meterGet s.svu.sums m

theorem MeterKept.trans {m : Meter} {s t u : State} (h : MeterKept m s t) (h' : MeterKept m t u) :
    MeterKept m s u := by
  obtain ⟨hm, hr, hs⟩ := h
  obtain ⟨hm', hr', hs'⟩ := h'
  exact ⟨hm'.trans hm, hr'.trans hr, hs'.trans hs⟩

theorem MeterKept.of_svu {m : Meter} {s t : State} (h : t.svu = s.svu) : MeterKept m s t :=
  ⟨by rw [h], by cases m <;> simp [remainderGet, h], by rw [h]⟩

theorem meterKept_notify (m : Meter) (k : NoticeKind) (n : Nat) (v : Severity) (x : Option Nat) (s : State) :
    MeterKept m s (notify k n v x s) := .of_svu (by simp)

theorem meterKept_increment {m k : Meter} (h : k ≠ m) (n : Nat) (s : State) : MeterKept k s (increment m n s) :=
  ⟨by simp [meterGet_increment, h], by simp [remainderGet_increment, h], by simp [meterGet_sums_increment, h]⟩

theorem MeterKept.meterAfter_eq {m : Meter} {s t : State} (h : MeterKept m s t) (hl : t.svu.loaded = s.svu.loaded)
    (n : Nat) : meterAfter t m n = meterAfter s m n := by
  obtain ⟨hm, hr, -⟩ := h
  unfold meterAfter
  rw [hm, hr, hl]

theorem MeterKept.remainderAfter_eq {m : Meter} {s t : State} (h : MeterKept m s t)
    (hl : t.svu.loaded = s.svu.loaded) (n : Nat) : remainderAfter t m n = remainderAfter s m n := by
  obtain ⟨hm, hr, -⟩ := h
  unfold remainderAfter
  rw [hm, hr, hl]

/-! ### Saves asked for -/

theorem mem_pendingSave_askSave (r : Region) (s : State) : r ∈ (askSave r s).rts.pendingSave := by
  unfold askSave
  split <;> simp_all

theorem mem_pendingSave_askSave_of_mem {r : Region} (r' : Region) {s : State} (h : r ∈ s.rts.pendingSave) :
    r ∈ (askSave r' s).rts.pendingSave := by
  unfold askSave
  split <;> simp_all

theorem mem_pendingSave_setMeter {r : Region} (m : Meter) (v : Nat) {s : State} (h : r ∈ s.rts.pendingSave) :
    r ∈ (setMeter m v s).rts.pendingSave := by
  unfold setMeter
  split
  · exact h
  · unfold closingSave
    simp only [evaluateItems_frame]
    split
    · exact mem_pendingSave_askSave_of_mem _ h
    · exact h

theorem mem_pendingSave_increment {r : Region} (m : Meter) (n : Nat) {s : State} (h : r ∈ s.rts.pendingSave) :
    r ∈ (increment m n s).rts.pendingSave := by
  unfold increment
  split
  · unfold applyIncrement
    split
    · exact h
    · exact mem_pendingSave_setMeter _ _ (by simpa using h)
  · exact h

/-! ### An empty item table -/

/-- Every entry of the item table is EMPTY. -/
def NoItems (s : State) : Prop := s.svu.items = Vector.replicate 32 none

theorem NoItems.itemAt {s : State} (h : NoItems s) (k : Fin 32) : itemAt s k = none := by
  unfold NoItems at h
  simp [Machine.itemAt, h]

theorem evaluateItems_of_noItems {s : State} (h : NoItems s) (p : Item → Bool) : evaluateItems p s = s := by
  unfold evaluateItems
  induction allItems with
  | nil => rfl
  | cons k l ih => simpa [List.foldl_cons, h.itemAt k] using ih

/-- From an empty item table the operation leads to one, raising notices with the listed keys only. -/
def Announces (ks : List (NoticeKind × Nat)) (s t : State) : Prop := NoItems s → NoItems t ∧ Raises ks s t

theorem Announces.of_raises {ks : List (NoticeKind × Nat)} {s t : State} (h : Raises ks s t)
    (hi : t.svu.items = s.svu.items) : Announces ks s t := fun hs => ⟨by rwa [NoItems, hi], h⟩

theorem Announces.of_eq {ks : List (NoticeKind × Nat)} {s t : State} (h : t.lnc.notices = s.lnc.notices)
    (hi : t.svu.items = s.svu.items) : Announces ks s t := .of_raises (.of_eq h) hi

theorem Announces.refl (ks : List (NoticeKind × Nat)) (s : State) : Announces ks s s := .of_eq rfl rfl

theorem Announces.trans {ks : List (NoticeKind × Nat)} {s t u : State} (h : Announces ks s t)
    (h' : Announces ks t u) : Announces ks s u := fun hs =>
  have ⟨ht, hst⟩ := h hs
  have ⟨hu, htu⟩ := h' ht
  ⟨hu, hst.trans htu⟩

theorem Announces.mono {ks ks' : List (NoticeKind × Nat)} {s t : State} (h : Announces ks s t) (hk : ks ⊆ ks') :
    Announces ks' s t := fun hs =>
  have ⟨ht, hst⟩ := h hs
  ⟨ht, hst.mono hk⟩

theorem announces_notify {ks : List (NoticeKind × Nat)} {k : NoticeKind} {n : Nat} (h : (k, n) ∈ ks) (v : Severity)
    (x : Option Nat) (s : State) : Announces ks s (notify k n v x s) := .of_raises (raises_notify h v x s) (by simp)

theorem announces_ite {ks : List (NoticeKind × Nat)} {s t u : State} {c : Prop} [Decidable c]
    (ht : Announces ks s t) (hu : Announces ks s u) : Announces ks s (if c then t else u) := by
  split <;> assumption

theorem announces_setMeter (m : Meter) (v : Nat) (s : State) : Announces [] s (setMeter m v s) := by
  intro hs
  have hset : NoItems (closingSave { s with svu.meters := meterSet s.svu.meters m v }) := by
    simpa [NoItems] using hs
  unfold setMeter
  rw [evaluateItems_of_noItems hset]
  exact announces_ite (.refl _ s) (.of_eq (by simp) (by simp)) hs

theorem announces_increment (m : Meter) (n : Nat) (s : State) : Announces [] s (increment m n s) := by
  unfold increment applyIncrement
  refine announces_ite (announces_ite (.refl _ s) ?_) (.of_eq rfl rfl)
  exact (Announces.of_eq (by simp) (by simp)).trans (announces_setMeter _ _ _)

end Sys2Proof.Proofs
end

section
/-! PROOFS. The pose that an expiry publishes: its coordinates, rates, grade deviation and floor (R37 to R56), and what
the pose's first user, the Envelope Unit, leaves to the second, the Payload Unit. -/

namespace Sys2Proof.Proofs

open Sys2Proof Sys2Proof.Machine Sys2Proof.Laws

/-! ### The event -/

/-- A due expiry of an awake part is the pose event with the event's end. -/
theorem eventGives_poseTimer {s : State} {P : State → Prop} (ha : awake s = true)
    (hd : reached s.gmu.poseTimer 20 s.now = true) (h : P (settled s (poseEvent s))) : EventGives .poseTimer s P :=
  ⟨settled s (poseEvent s), congrArg Host.Outcome.next (event_of_due poseEvent ha hd), h⟩

/-- The state in which a pose reaches the Payload Unit. -/
def atPayload (s : State) : State := capsPose (publishPose s)

theorem poseEvent_eq (s : State) : poseEvent s =
    settleSummary s (slewTravel (slewDiff s.siu s.gmu.rateMem) (payloadPose (atPayload s))) := rfl

@[simp] theorem slewTravel_frame (d : Option Int) (s : State) :
    (slewTravel d s).gmu = s.gmu ∧ (slewTravel d s).plu = s.plu ∧ (slewTravel d s).now = s.now ∧
    (slewTravel d s).svu.loaded = s.svu.loaded := by
  cases d <;> simp [slewTravel]

@[simp] theorem atPayload_frame (s : State) :
    (atPayload s).gmu.pose = formPose s ∧ (atPayload s).plu = s.plu ∧ (atPayload s).siu = s.siu ∧
    (atPayload s).now = s.now ∧ (atPayload s).clock = s.clock ∧ (atPayload s).mdc.mode = s.mdc.mode ∧
    (atPayload s).eeu = s.eeu ∧ (atPayload s).rts.cal = s.rts.cal ∧ (atPayload s).svu.loaded = s.svu.loaded := by
  simp [atPayload]

/-- The pose that the event leaves is the one formed, and the Payload Unit is as it left itself. -/
@[simp] theorem settled_poseEvent (s : State) :
    (settled s (poseEvent s)).gmu.pose = formPose s ∧
    (settled s (poseEvent s)).plu = (payloadPose (atPayload s)).plu := by
  simp [poseEvent_eq]

/-! ### Channels -/

theorem current_iff (st : ChState) : current st = true ↔ st = .valid ∨ st = .suspect := by cases st <;> decide

/-- A channel that is neither FAILED nor ABSENT gives its accepted value (R37). -/
theorem readChannel_of_present {c : ChannelRec} (hf : c.state ≠ .failed) (ha : c.state ≠ .absent) :
    readChannel c = c.accepted := by
  unfold readChannel
  cases hc : c.state <;> simp_all

theorem readChannel_of_current {c : ChannelRec} (h : current c.state = true) : readChannel c = c.accepted :=
  readChannel_of_present (fun hc => by simp [hc, current] at h) (fun hc => by simp [hc, current] at h)

/-- A part that is not INVALID has no channel FAILED or ABSENT (R47). -/
theorem present_of_partOf {l : List ChState} (h : partOf l ≠ .invalid) :
    ∀ st ∈ l, st ≠ .failed ∧ st ≠ .absent := by
  unfold partOf at h
  split at h
  · exact absurd rfl h
  · rename_i hany
    simpa using hany

theorem planePart_ne_invalid {cal : CalStatus} {t : ChannelTable} (h : planePart cal t ≠ .invalid) :
    partOf [t.boomAng.state, t.stickAng.state, t.bucketAng.state, t.upperTilt.state] ≠ .invalid := by
  cases cal with
  | invalid => exact absurd rfl h
  | valid => exact h

/-- With a plane part that is not INVALID the four plane channels give their accepted values to the stages. -/
theorem frontCoords_of_plane {cal : Calibration} {p : CalStatus} {t : ChannelTable} {rb rs rk ru : Reading}
    (hp : planePart p t ≠ .invalid) (hb : t.boomAng.accepted = some rb) (hs : t.stickAng.accepted = some rs)
    (hk : t.bucketAng.accepted = some rk) (hu : t.upperTilt.accepted = some ru) :
    frontCoords cal (planePart p t) t = some (rawCoords cal rb.v1 rs.v1 rk.v1 ru.v1) := by
  have hpresent := present_of_partOf (planePart_ne_invalid hp)
  simp only [List.forall_mem_cons, List.not_mem_nil, false_imp_iff, implies_true, and_true] at hpresent
  obtain ⟨⟨hbf, hba⟩, ⟨hsf, hsa⟩, ⟨hkf, hka⟩, huf, hua⟩ := hpresent
  unfold frontCoords
  rw [if_neg hp, readChannel_of_present hbf hba, readChannel_of_present hsf hsa, readChannel_of_present hkf hka,
    readChannel_of_present huf hua, hb, hs, hk, hu]

theorem frontCoords_of_invalid (cal : Calibration) (t : ChannelTable) : frontCoords cal .invalid t = none := if_pos rfl

/-! ### Coordinates -/

/-- Stage 4 over the saturated coordinates (R44, R45). -/
theorem publishCoords_h (r : RawCoords) : (publishCoords r).h =
    if saturate r.z1 ≤ saturate r.z3 then saturate r.z3 else saturate r.z1 := max_def _ _

theorem overranged_iff (r : RawCoords) : overranged r = true ↔
    ∃ v ∈ [r.xp, r.zp, r.x1, r.z1, r.x3, r.z3], v < -32767 ∨ 32767 < v := by
  simp only [overranged, List.any_eq_true, decide_eq_true_iff, saturate_ne_iff]

theorem formPose_coords (s : State) :
    (formPose s).coords = (frontCoords s.rts.cal (formPose s).plane s.siu).map publishCoords := rfl

theorem formPose_overrange (s : State) :
    (formPose s).overrange = ((frontCoords s.rts.cal (formPose s).plane s.siu).map overranged).getD false := rfl

theorem formPose_of_invalid {s : State} (h : (formPose s).plane = .invalid) :
    (formPose s).coords = none ∧ (formPose s).overrange = false := by
  rw [formPose_coords, formPose_overrange, h, frontCoords_of_invalid]
  exact ⟨rfl, rfl⟩

/-! ### Rates -/

/-- A difference is formed exactly when the channel is VALID or SUSPECT now and was at the previous expiry (R49). -/
theorem rateDiff_eq_some_iff (wrap : Bool) (c : ChannelRec) (m : RateRead) (d : Int) :
    rateDiff wrap c (some m) = some d ↔
      ∃ a b, ((c.state = .valid ∨ c.state = .suspect) ∧ c.accepted.map (·.v1) = some a) ∧
        ((m.state = .valid ∨ m.state = .suspect) ∧ m.value = some b) ∧ d = if wrap then norm180 (a - b) else a - b := by
  rw [← current_iff, ← current_iff]
  cases hc : current c.state
  case false => unfold rateDiff; (repeat' split) <;> simp_all
  case true =>
    unfold rateDiff
    rw [readChannel_of_current hc]
    cases c.accepted <;> cases hv : m.value <;> cases hm : current m.state <;> simp [hc, hv, hm, eq_comm]

/-- A rate is fifty times the difference. -/
theorem rate_eq_some_iff (wrap : Bool) (c : ChannelRec) (m : RateRead) (x : Int) :
    (rateDiff wrap c (some m)).map (· * 50) = some x ↔
      ∃ a b, ((c.state = .valid ∨ c.state = .suspect) ∧ c.accepted.map (·.v1) = some a) ∧
        ((m.state = .valid ∨ m.state = .suspect) ∧ m.value = some b) ∧
        x = (if wrap then norm180 (a - b) else a - b) * 50 := by
  simp only [Option.map_eq_some_iff, rateDiff_eq_some_iff]
  constructor
  · rintro ⟨d, ⟨a, b, ha, hb, rfl⟩, rfl⟩
    exact ⟨a, b, ha, hb, rfl⟩
  · rintro ⟨a, b, ha, hb, rfl⟩
    exact ⟨_, ⟨a, b, ha, hb, rfl⟩, rfl⟩

/-! ### Grade -/

theorem targetHeight_rounds (g : Grade) (x3 : Int) : ∃ q, Rounds q (g.slope * (x3 - g.xRef)) 10000 ∧
    targetHeight g x3 = max (-32767) (min 32767 (g.zRef + q)) := ⟨_, rounds_roundDiv _ (by decide), rfl⟩

theorem formPose_deviation (s : State) : (formPose s).deviation = s.gmu.grade.bind fun g =>
    (formPose s).coords.map fun c => clampInt (-9999) 9999 (c.z3 - targetHeight g c.x3) := rfl

theorem formPose_gradeFloor (s : State) : (formPose s).gradeFloor = s.gmu.grade.bind fun g =>
    if g.stop then some { limit := (formPose s).coords.map fun c => targetHeight g c.x3, margin := g.margin }
    else none := rfl

/-! ### What the Envelope Unit leaves alone at a pose -/

theorem testMonitor_cases (b : PerFn Monitor) (s : State) (f : HydFn) :
    testMonitor b s f = s ∨ ∃ ms, testMonitor b s f = respond f ms s := by
  unfold testMonitor
  (repeat' split)
  case h_1.isTrue => exact .inr ⟨_, rfl⟩
  all_goals exact .inl rfl

/-- The unit forms its caps, which touches neither the Service Unit nor the links, and then tests monitors. -/
theorem capsPose_cases (s : State) : ∃ (l : List HydFn) (t : State),
    capsPose s = l.foldl (testMonitor s.evu.monitors) t ∧ t.svu = s.svu ∧ t.lnc = s.lnc := by
  unfold capsPose
  cases s.mdc.mode
  case parked => exact ⟨allFns, _, rfl, by simp, by simp⟩
  case working => exact ⟨allFns, _, rfl, by simp, by simp⟩
  case service => exact ⟨allFns, _, rfl, by simp, by simp⟩
  all_goals exact ⟨[], _, rfl, by simp, by simp⟩

/-- A relation that holds over what leaves the Service Unit and the links alone, and over each response, holds over the
pose's handling. -/
theorem capsPose_relates {R : State → State → Prop} (hframe : ∀ s t, t.svu = s.svu → t.lnc = s.lnc → R s t)
    (htrans : ∀ s t u, R s t → R t u → R s u) (hrespond : ∀ f ms s, R s (respond f ms s)) (s : State) :
    R s (capsPose s) := by
  have htest : ∀ b t f, R t (testMonitor b t f) := by
    intro b t f
    rcases testMonitor_cases b t f with h | ⟨ms, h⟩ <;> rw [h]
    · exact hframe t t rfl rfl
    · exact hrespond f ms t
  have htests : ∀ (l : List HydFn) b t, R t (l.foldl (testMonitor b) t) := by
    intro l b
    induction l with
    | nil => exact fun t => hframe t t rfl rfl
    | cons f l ih => exact fun t => htrans _ _ _ (htest b t f) (ih _)
  obtain ⟨l, t, hcaps, hsvu, hlnc⟩ := capsPose_cases s
  rw [hcaps]
  exact htrans _ _ _ (hframe s t hsvu hlnc) (htests l _ t)

theorem meterKept_violation {m : Meter} (h : m ≠ .violations) (f : HydFn) (s : State) :
    MeterKept m s (violation f s) := by
  refine MeterKept.trans ?_ (meterKept_increment h 1 _)
  exact .of_svu (by simp only [setMonitor_frame])

theorem meterKept_respond {m : Meter} (h : m ≠ .violations) (f : HydFn) (ms : Nat) (s : State) :
    MeterKept m s (respond f ms s) := by
  unfold respond
  have hresponse : ∀ x, MeterKept m s (setMonitor f x s) := fun x => .of_svu (by simp only [setMonitor_frame])
  dsimp only
  split
  · exact ((hresponse _).trans (meterKept_violation h f _)).trans (meterKept_notify _ _ _ _ _ _)
  · exact hresponse _

theorem meterKept_capsPose {m : Meter} (h : m ≠ .violations) (s : State) : MeterKept m s (capsPose s) :=
  capsPose_relates (R := MeterKept m) (fun _ _ hsvu _ => .of_svu hsvu) (fun _ _ _ => MeterKept.trans)
    (meterKept_respond h) s

theorem meterKept_atPayload {m : Meter} (h : m ≠ .violations) (s : State) : MeterKept m s (atPayload s) :=
  (MeterKept.of_svu (by simp)).trans (meterKept_capsPose h _)

/-! ### The notices up to the Payload Unit -/

/-- The keys of the notices that a pose may raise before it reaches the Payload Unit. -/
def capsKeys : List (NoticeKind × Nat) :=
  (.poseValidity, 0) :: (.poseValidity, 1) :: (List.range 8).map fun i => (.responseLate, i)

theorem raises_notifyPart {ks : List (NoticeKind × Nat)} {n : Nat} (h : (.poseValidity, n) ∈ ks) (a b : Part)
    (s : State) : Raises ks s (notifyPart n a b s) := raises_ite (.refl _ s) (raises_notify h _ _ _)

theorem raises_publishPose (s : State) : Raises capsKeys s (publishPose s) := by
  refine Raises.trans ?_ (raises_notifyPart (by decide) _ _ _)
  refine Raises.trans ?_ (raises_notifyPart (by decide) _ _ _)
  exact .of_eq rfl

theorem announces_violation (f : HydFn) (s : State) : Announces [] s (violation f s) := by
  refine Announces.trans ?_ (announces_increment _ 1 _)
  exact .of_eq (by simp only [setMonitor_frame]) (by simp only [setMonitor_frame])

theorem announces_respond (f : HydFn) (ms : Nat) (s : State) : Announces capsKeys s (respond f ms s) := by
  have hkey : (NoticeKind.responseLate, fnIndex f) ∈ capsKeys := by cases f <;> decide
  have hresponse : ∀ m, Announces capsKeys s (setMonitor f m s) := fun m =>
    .of_eq (by simp only [setMonitor_frame]) (by simp only [setMonitor_frame])
  refine announces_ite (Announces.trans ?_ (announces_notify hkey _ _ _)) (hresponse _)
  exact (hresponse _).trans ((announces_violation f _).mono (List.nil_subset _))

theorem announces_capsPose (s : State) : Announces capsKeys s (capsPose s) :=
  capsPose_relates (R := Announces capsKeys) (fun _ _ hsvu hlnc => .of_eq (by rw [hlnc]) (by rw [hsvu]))
    (fun _ _ _ => Announces.trans) announces_respond s

theorem announces_atPayload (s : State) : Announces capsKeys s (atPayload s) :=
  (Announces.of_raises (raises_publishPose s) (by simp)).trans (announces_capsPose _)

end Sys2Proof.Proofs
end

section
/-! PROOFS. The Payload Unit at a pose: weighing, the detector, and a pass that joins its truck (R60 to R77). -/

namespace Sys2Proof.Proofs

open Sys2Proof Sys2Proof.Machine Sys2Proof.Laws

/-! ### Weighing -/

/-- A weigh sample is one as the rules state it, at every distance at which R65 takes one. -/
theorem isSample_weigh (cal : Calibration) (pr : Reading) (boom : Int) {r : Int} (hr : 1000 ≤ r) :
    IsSample cal pr boom r (weigh cal pr.v1 pr.v2 boom r) := by
  refine ⟨rawMass cal pr.v1 pr.v2 boom r, rounds_roundDiv _ (by omega), rfl, ?_⟩
  simp only [weigh, clampInt]
  omega

theorem weighSample_of_valid {s : State} {c : Coords} {boom : Int} {pr : Reading} (hp : s.gmu.pose.plane ≠ .invalid)
    (hc : s.gmu.pose.coords = some c) (hb : s.gmu.pose.boom = some boom) (hr : s.siu.boomPress.accepted = some pr)
    (hv : s.siu.boomPress.state = .valid) (hd : 1000 ≤ c.x3 - c.xp) :
    weighSample s = some (weigh s.rts.cal pr.v1 pr.v2 boom (c.x3 - c.xp)) := by
  simp [weighSample, hc, hb, hr, hp, hv, hd]

/-- No sample without a VALID pressure channel, nor nearer than the least distance (R65). -/
theorem weighSample_eq_none {s : State}
    (h : s.siu.boomPress.state ≠ .valid ∨ ∃ c, s.gmu.pose.coords = some c ∧ c.x3 - c.xp < 1000) :
    weighSample s = none := by
  unfold weighSample
  dsimp only
  split
  case h_2 => rfl
  case h_1 c boom pr hc _ _ =>
    refine if_neg fun hcond => ?_
    simp only [Bool.and_eq_true, bne_iff_ne, beq_iff_eq, decide_eq_true_iff] at hcond
    obtain ⟨⟨-, hv⟩, hd⟩ := hcond
    rcases h with h | ⟨c', hc', hlt⟩
    · exact h hv
    · rw [hc] at hc'
      cases hc'
      omega

theorem offerSample_plu (s : State) :
    (offerSample s).plu = { s.plu with samples := (offerSample s).plu.samples } := by
  unfold offerSample
  split <;> rfl

theorem offered_offerSample {s : State} (hp : s.gmu.pose.plane ≠ .invalid) :
    Offered s s.gmu.pose s.plu.samples (offerSample s).plu.samples := by
  constructor
  · intro c boom pr hc hb hr hv hd
    refine ⟨_, isSample_weigh s.rts.cal pr boom hd, ?_⟩
    simp [offerSample, weighSample_of_valid hp hc hb hr hv hd, joinSample]
  · intro h
    simp [offerSample, weighSample_eq_none h]

/-- What is offered is decided by the sensors and the calibration alone. -/
theorem offered_congr {s t : State} {p : Pose} {l l' : List Sample} (hs : t.siu = s.siu) (hc : t.rts.cal = s.rts.cal) :
    Offered t p l l' ↔ Offered s p l l' := by
  unfold Offered
  rw [hs, hc]

/-! ### The detector -/

theorem rateAtLeast_iff (r : Option Int) (b : Int) : rateAtLeast r b = true ↔ ∃ v, r = some v ∧ b ≤ v := by
  cases r <;> simp [rateAtLeast]

theorem rateAtMost_iff (r : Option Int) (b : Int) : rateAtMost r b = true ↔ ∃ v, r = some v ∧ v ≤ b := by
  cases r <;> simp [rateAtMost]

theorem bucketFilled_iff (s : State) : bucketFilled s = true ↔
    ∃ k st, s.gmu.pose.bucket = some k ∧ s.gmu.pose.stick = some st ∧
      calCurl s.rts.cal ≤ (k - st + 18000) % 36000 - 18000 := by
  unfold bucketFilled
  cases s.gmu.pose.bucket with
  | none => simp
  | some k =>
    cases s.gmu.pose.stick with
    | none => simp
    | some st =>
      rw [decide_eq_true_iff]
      simp [norm180]

/-- A pose with a plane part that is not INVALID reaches the detector outside CLOSING (R60, R64). -/
theorem payloadPose_of_plane {s : State} (hm : s.mdc.mode ≠ .closing) (hp : s.gmu.pose.plane ≠ .invalid) :
    payloadPose s = detectPass s := by
  rw [payloadPose, if_neg hm, if_neg hp]

theorem detectPass_of_ready {s : State} (h : s.plu.detector = .ready) : detectPass s =
    if rateAtLeast s.gmu.pose.boomRate 300 && bucketFilled s then offerSample (startCarry s) else s := by
  simp only [detectPass, h]

theorem detectPass_of_carry {s : State} (h : s.plu.detector = .carry) : detectPass s =
    if rateAtMost s.gmu.pose.bucketRate (-2000) then joinPass (passOf s) { s with plu.detector := .return }
    else if rateAtMost s.gmu.pose.boomRate (-300) then detectorReady s else offerSample s := by
  simp only [detectPass, h]

theorem detectPass_of_return {s : State} (h : s.plu.detector = .return) : detectPass s =
    if rateAtMost s.gmu.pose.boomRate (-300) then detectorReady s else s := by
  simp only [detectPass, h]

/-! ### A pass joins its truck -/

/-- The pass record under the number that it takes in its truck (R71). -/
def passAt (s : State) (p : Pass) : Pass := { p with number := (openedTruck s).passes.length + 1 }

/-- The truck once the pass has joined it. -/
def joinedTruck (s : State) (p : Pass) : Truck := truckWith (openedTruck s) (passAt s p)

/-- The state as the pass has joined and its notice has been raised, before the tests against the target. -/
def passWeighed (p : Pass) (s : State) : State :=
  notify .passWeighed (openedTruck s).number (passSeverity (passAt s p)) (some ((passAt s p).payload.getD 0))
    { s with
      plu.truck := some (joinedTruck s p)
      plu.nextNumber := if s.plu.truck.isSome then s.plu.nextNumber else nextTruckNumber s.plu.nextNumber }

/-- The state once the pass has joined its truck and been announced, before a full truck is closed (R71 to R73). -/
def passTaken (p : Pass) (s : State) : State :=
  targetTests (targetReached (openedTruck s).total (openedTruck s).target) (joinedTruck s p) (passWeighed p s)

theorem truckFor_eq (s : State) : truckFor s = openedTruck s := by
  unfold truckFor openedTruck
  cases s.plu.truck <;> rfl

theorem joinPass_eq (p : Pass) (s : State) : joinPass p s =
    if (joinedTruck s p).passes.length = 12 then closeTruck (joinedTruck s p) (passTaken p s) else passTaken p s := by
  unfold joinPass
  simp only [truckFor_eq]
  rfl

@[simp] theorem passTaken_frame (p : Pass) (s : State) :
    (passTaken p s).now = s.now ∧ (passTaken p s).clock = s.clock ∧ (passTaken p s).svu = s.svu ∧
    (passTaken p s).rts = s.rts ∧
    (passTaken p s).plu = { s.plu with
      truck := some (joinedTruck s p)
      nextNumber := if s.plu.truck.isSome then s.plu.nextNumber else nextTruckNumber s.plu.nextNumber } := by
  simp [passTaken, passWeighed]

/-- Closing a truck empties its place and adds its summary (R76, R77). -/
@[simp] theorem closeTruck_plu (t : Truck) (s : State) : (closeTruck t s).plu =
    { s.plu with truck := none, completed := joinSummary s.plu.completed (summaryOfTruck t s.clock.time) } := by
  simp [closeTruck]

theorem closeTruck_svu (t : Truck) (s : State) :
    (closeTruck t s).svu = (increment .passes t.passes.length (increment .payload t.total s)).svu := by
  simp [closeTruck]

theorem mem_pendingSave_closeTruck (t : Truck) (s : State) : .trucks ∈ (closeTruck t s).rts.pendingSave := by
  simpa [closeTruck] using mem_pendingSave_askSave _ _

/-- The payload meter takes the truck's total and the pass meter its passes (R76). -/
theorem closeTruck_payload (t : Truck) (s : State) :
    meterGet (closeTruck t s).svu.meters .payload = meterAfter s .payload t.total ∧
    remainderGet (closeTruck t s) .payload = remainderAfter s .payload t.total ∧
    meterGet (closeTruck t s).svu.sums .payload =
      meterGet s.svu.sums .payload + if s.svu.loaded then 0 else t.total := by
  have hrem : ∀ u : State, remainderGet u .payload = u.svu.payloadRem := fun _ => rfl
  rw [hrem, closeTruck_svu, ← hrem]
  simp [meterGet_increment, remainderGet_increment, meterGet_sums_increment]

theorem closeTruck_passes (t : Truck) (s : State) :
    meterGet (closeTruck t s).svu.meters .passes = meterAfter s .passes t.passes.length ∧
    meterGet (closeTruck t s).svu.sums .passes =
      meterGet s.svu.sums .passes + if s.svu.loaded then 0 else t.passes.length := by
  have hkept : MeterKept .passes s (increment .payload t.total s) := meterKept_increment (by decide) _ s
  rw [closeTruck_svu]
  simp [meterGet_increment, meterGet_sums_increment, hkept.meterAfter_eq]

/-! ### The notices of a pass -/

/-- The keys of the notices of a pass that joins the truck of this number. -/
def passKeys (n : Nat) : List (NoticeKind × Nat) :=
  [(.passWeighed, n), (.targetReached, n), (.lastPass, n), (.truckClosed, n)]

theorem targetReached_iff (total : Nat) (target : Option Nat) :
    targetReached total target = true ↔ ∃ g, target = some g ∧ g ≤ total := by
  cases target <;> simp [targetReached]

/-- One more usual pass would exceed the target by more than 5 % (R73). -/
theorem lastPassDue_of_target {t : Truck} {g : Nat} (h : t.target = some g) : lastPassDue t = true ↔
    t.passes.filterMap (·.payload) ≠ [] ∧ t.total < g ∧
      g * 105 / 100 < t.total + (t.passes.filterMap (·.payload)).sum / (t.passes.filterMap (·.payload)).length := by
  unfold lastPassDue
  rw [h]
  dsimp only
  rw [Bool.and_eq_true, Bool.and_eq_true, decide_eq_true_iff, decide_eq_true_iff]
  simp [weighed, and_assoc]

theorem passSeverity_eq (p : Pass) : passSeverity p =
    if p.overload then .warn else if p.payload = none then .advise else .info := by
  simp [passSeverity]

/-- The two tests against the target, by the notices that they raise in a queue with room (R73). -/
theorem noticeWaits_targetTests {ks : List (NoticeKind × Nat)} {s : State} {t : Truck} (before : Bool)
    (hr : Room ks s.lnc.notices) (hk : passKeys t.number ⊆ ks) :
    (targetReached t.total t.target = true → before = false →
      NoticeWaits .targetReached t.number .advise (some t.total) (targetTests before t s)) ∧
    (lastPassDue t = true → NoticeWaits .lastPass t.number .advise (some t.total) (targetTests before t s)) := by
  have hreached : (.targetReached, t.number) ∈ ks := hk (by simp [passKeys])
  have hlast : (.lastPass, t.number) ∈ ks := hk (by simp [passKeys])
  have raisesReached : ∀ {c : Prop} [Decidable c], Raises [(.targetReached, t.number)] s
      (if c then notify .targetReached t.number .advise (some t.total) s else s) :=
    raises_ite (raises_notify (List.mem_singleton_self _) _ _ _) (.refl _ _)
  have raisesLast : ∀ u, Raises [(.lastPass, t.number)] u
      (if lastPassDue t then notify .lastPass t.number .advise (some t.total) u else u) := fun u =>
    raises_ite (raises_notify (List.mem_singleton_self _) _ _ _) (.refl _ _)
  have hroom := raisesReached (c := (targetReached t.total t.target && !before) = true)
    |>.room (by simpa using hreached) hr
  unfold targetTests
  constructor
  · intro ht hb
    have hc : (targetReached t.total t.target && !before) = true := by simp [ht, hb]
    refine noticeWaits_of_raises ?_ (raisesLast _) (by simpa using hlast) hroom (by simp)
    rw [if_pos hc]
    exact noticeWaits_notify _ _ hr hreached
  · intro hl
    dsimp only
    rw [if_pos hl]
    exact noticeWaits_notify _ _ hroom hlast

theorem raises_targetTests (before : Bool) (t : Truck) (s : State) :
    Raises [(.targetReached, t.number), (.lastPass, t.number)] s (targetTests before t s) := by
  refine Raises.trans ?_ (raises_ite (raises_notify (by simp) _ _ _) (.refl _ _))
  exact raises_ite (raises_notify (by simp) _ _ _) (.refl _ _)

/-- A truck counted and put in the list, with its save asked for, before its notice (R76 steps 1 to 3). -/
def truckCounted (t : Truck) (s : State) : State :=
  let s := increment .passes t.passes.length (increment .payload t.total s)
  askSave .trucks { s with plu.completed := joinSummary s.plu.completed (summaryOfTruck t s.clock.time) }

theorem closeTruck_eq (t : Truck) (s : State) : closeTruck t s =
    { notify .truckClosed t.number (if t.overload then .warn else .info) (some t.total) (truckCounted t s) with
      plu.truck := none } := rfl

theorem announces_truckCounted (t : Truck) (s : State) : Announces [] s (truckCounted t s) := by
  have hcount : Announces [] s (increment .passes t.passes.length (increment .payload t.total s)) :=
    (announces_increment _ _ _).trans (announces_increment _ _ _)
  exact hcount.trans (.of_eq (by simp [truckCounted]) (by simp [truckCounted]))

theorem raises_closeTruck (t : Truck) (s : State) :
    Raises [(.truckClosed, t.number)] (truckCounted t s) (closeTruck t s) := by
  rw [closeTruck_eq]
  exact raises_notify (List.mem_singleton_self _) _ _ _

theorem announces_closeTruck (t : Truck) (s : State) :
    Announces [(.truckClosed, t.number)] s (closeTruck t s) :=
  ((announces_truckCounted t s).mono (List.nil_subset _)).trans (.of_raises (raises_closeTruck t s) rfl)

theorem noticeWaits_closeTruck {ks : List (NoticeKind × Nat)} {t : Truck} {s : State} (hi : NoItems s)
    (hr : Room ks s.lnc.notices) (hk : (.truckClosed, t.number) ∈ ks) :
    NoticeWaits .truckClosed t.number (if t.overload then .warn else .info) (some t.total) (closeTruck t s) := by
  obtain ⟨-, hcounted⟩ := announces_truckCounted t s hi
  rw [closeTruck_eq]
  exact noticeWaits_notify _ _ (hcounted.room (List.nil_subset _) hr) hk

/-- Notices of a pass wait on through operations that raise none of their keys. -/
theorem passNotices_of_raises {ks ks' : List (NoticeKind × Nat)} {t t' : Truck} {x : Pass} {s u : State}
    (h : PassNotices t t' x s) (hu : Raises ks' s u) (hs : ks' ⊆ ks) (hr : Room ks s.lnc.notices)
    (hk : ∀ k ∈ passKeys t.number, k ∉ ks') : PassNotices t t' x u := by
  have keep : ∀ {k : NoticeKind} {v y}, (k, t.number) ∈ passKeys t.number → NoticeWaits k t.number v y s →
      NoticeWaits k t.number v y u := fun hmem hw => noticeWaits_of_raises hw hu hs hr (hk _ hmem)
  obtain ⟨hpass, hreached, hlast, hclosed⟩ := h
  exact ⟨keep (by simp [passKeys]) hpass,
    fun g hg hlt hge => keep (by simp [passKeys]) (hreached g hg hlt hge),
    fun g hg hl hlt hgt => keep (by simp [passKeys]) (hlast g hg hl hlt hgt),
    fun hfull => keep (by simp [passKeys]) (hclosed hfull)⟩

theorem raises_passWeighed (p : Pass) (s : State) :
    Raises [(.passWeighed, (openedTruck s).number)] s (passWeighed p s) :=
  raises_notify (List.mem_singleton_self _) _ _ _

theorem raises_passTaken (p : Pass) (s : State) : Raises (passKeys (openedTruck s).number) s (passTaken p s) :=
  ((raises_passWeighed p s).mono (by simp [passKeys])).trans
    ((raises_targetTests _ (joinedTruck s p) _).mono (by simp [passKeys, joinedTruck, truckWith]))

theorem announces_joinPass (p : Pass) (s : State) : Announces (passKeys (openedTruck s).number) s (joinPass p s) := by
  have htaken : Announces (passKeys (openedTruck s).number) s (passTaken p s) :=
    .of_raises (raises_passTaken p s) (by simp)
  rw [joinPass_eq]
  refine announces_ite (htaken.trans ((announces_closeTruck _ _).mono ?_)) htaken
  simp [passKeys, joinedTruck, truckWith]

/-- The notices of a pass that joins its truck stand in a queue with room for them (R72, R73, R76). -/
theorem passNotices_joinPass {ks : List (NoticeKind × Nat)} {s : State} (p : Pass) (hi : NoItems s)
    (hr : Room ks s.lnc.notices) (hk : passKeys (openedTruck s).number ⊆ ks) :
    PassNotices (openedTruck s) (joinedTruck s p) (passAt s p) (joinPass p s) := by
  have hsub : ∀ k, (k, (openedTruck s).number) ∈ passKeys (openedTruck s).number → (k, (openedTruck s).number) ∈ ks :=
    fun k hmem => hk hmem
  have hroomWeighed : Room ks (passWeighed p s).lnc.notices :=
    (raises_passWeighed p s).room (by simpa using hsub _ (by simp [passKeys])) hr
  have hroomTaken : Room ks (passTaken p s).lnc.notices := (raises_passTaken p s).room hk hr
  have hweighed : NoticeWaits .passWeighed (openedTruck s).number (passSeverity (passAt s p))
      (some ((passAt s p).payload.getD 0)) (passTaken p s) :=
    noticeWaits_of_raises (noticeWaits_notify _ _ hr (hsub _ (by simp [passKeys]))) (raises_targetTests _ _ _)
      (List.Subset.trans (by simp [passKeys, joinedTruck, truckWith]) hk) hroomWeighed (by simp)
  obtain ⟨hreached, hlast⟩ := noticeWaits_targetTests (t := joinedTruck s p)
    (targetReached (openedTruck s).total (openedTruck s).target) hroomWeighed hk
  have hitems : NoItems (passTaken p s) := by simpa [NoItems] using hi
  have hjoin : Raises [(.truckClosed, (openedTruck s).number)] (passTaken p s) (joinPass p s) := by
    rw [joinPass_eq]
    exact raises_ite (announces_closeTruck (joinedTruck s p) _ hitems).2 (.refl _ _)
  have keep : ∀ {k v y}, k ≠ .truckClosed → NoticeWaits k (openedTruck s).number v y (passTaken p s) →
      NoticeWaits k (openedTruck s).number v y (joinPass p s) := fun hne hw =>
    noticeWaits_of_raises hw hjoin (by simpa using hsub _ (by simp [passKeys])) hroomTaken (by simpa using hne)
  refine ⟨?_, fun g hg hlt hge => keep (by decide) (hreached ?_ ?_), fun g hg hl hlt hgt =>
    keep (by decide) (hlast ((lastPassDue_of_target (t := joinedTruck s p) hg).2 ⟨hl, hlt, hgt⟩)), fun hfull => ?_⟩
  · rw [← passSeverity_eq]
    exact keep (by decide) hweighed
  · exact (targetReached_iff _ _).2 ⟨g, hg, hge⟩
  · rw [← Bool.not_eq_true, targetReached_iff, hg]
    rintro ⟨g', hg', hle⟩
    cases hg'
    omega
  · rw [joinPass_eq, if_pos hfull]
    exact noticeWaits_closeTruck hitems hroomTaken (hsub _ (by simp [passKeys]))

/-! ### The pass at a dump -/

/-- The mean is rounded to the nearest, halves up (R70). -/
theorem meanMass_bounds {l : List Sample} (h : l ≠ []) :
    2 * l.length * meanMass l ≤ 2 * (l.map (·.mass)).sum + l.length ∧
      2 * (l.map (·.mass)).sum + l.length < 2 * l.length * (meanMass l + 1) := by
  have hpos : 0 < 2 * l.length := by have := List.length_pos_iff.2 h; omega
  exact ⟨Nat.mul_div_le _ _, Nat.lt_mul_div_succ _ hpos⟩

theorem isPass_passAt {s r : State} (n : Nat) (hplu : r.plu = s.plu) (hpose : r.gmu.pose.time = some s.now)
    (hfuel : fuelReading r = fuelReading s) : IsPass s n { passOf r with number := n } := by
  refine ⟨rfl, by simp [passOf, hplu], by simp [passOf, hplu, hpose], hfuel, fun hlt => ?_, fun hge => ?_⟩
  · simp only [passOf, hplu]
    exact if_neg (by omega)
  · refine ⟨meanMass s.plu.samples, by simp only [passOf, hplu]; exact if_pos hge, meanMass_bounds ?_⟩
    rintro hnil
    simp [hnil] at hge

end Sys2Proof.Proofs
end

section
/-! PROOFS. The statement about a pose and its Payload Unit, part by part (R41 to R77), and the theorem that
settles it. -/

namespace Sys2Proof.Proofs

open Sys2Proof Sys2Proof.Machine Sys2Proof.Laws

/-! ### From the Payload Unit to the end of the event -/

/-- A meter that neither a violation nor the slew travel touches is, at the end of the event, as the Payload Unit left
it. -/
theorem meterKept_afterPayload {m : Meter} (h : m ≠ .slewTravel) (s : State) :
    MeterKept m (payloadPose (atPayload s)) (settled s (poseEvent s)) := by
  have hslew : ∀ d t, MeterKept m t (slewTravel d t) := by
    intro d t
    cases d with
    | none => exact .of_svu rfl
    | some d => exact meterKept_increment h _ t
  refine (hslew (slewDiff s.siu s.gmu.rateMem) _).trans ?_
  rw [poseEvent_eq]
  exact ⟨by simp, by cases m <;> simp [remainderGet], by simp⟩

/-- The keys of the notices that a pose may raise after its Payload Unit. -/
def afterKeys : List (NoticeKind × Nat) := (.restriction, 0) :: settleKeys

theorem announces_afterPayload (s : State) :
    Announces afterKeys (payloadPose (atPayload s)) (settled s (poseEvent s)) := by
  have hslew : ∀ d t, Announces afterKeys t (slewTravel d t) := by
    intro d t
    cases d with
    | none => exact .refl _ t
    | some d => exact (announces_increment _ _ t).mono (List.nil_subset _)
  have hsummary : ∀ t, Announces afterKeys t (settleSummary s t) := by
    intro t
    refine announces_ite (.refl _ t) (.of_raises ?_ (by simp))
    refine raises_ite (.refl _ t) ?_
    exact raises_notify (by simp [afterKeys]) _ _ { t with svu.summary := summaryOf t.svu.items }
  rw [poseEvent_eq]
  exact ((hslew _ _).trans (hsummary _)).trans
    (.of_raises ((raises_settled _ _).mono (by simp [afterKeys])) (by simp))

theorem saveAsked_afterPayload {r : Region} {s : State} (h : r ∈ (payloadPose (atPayload s)).rts.pendingSave) :
    SaveAsked r (settled s (poseEvent s)) := by
  refine saveAsked_settled s ?_
  rw [poseEvent_eq]
  simp only [settleSummary_frame]
  cases slewDiff s.siu s.gmu.rateMem with
  | none => exact h
  | some d => exact mem_pendingSave_increment _ _ h

/-! ### The coordinates of the published pose -/

theorem formPose_of_plane {s : State} {rb rs rk ru : Reading} (hp : (formPose s).plane ≠ .invalid)
    (hb : s.siu.boomAng.accepted = some rb) (hs : s.siu.stickAng.accepted = some rs)
    (hk : s.siu.bucketAng.accepted = some rk) (hu : s.siu.upperTilt.accepted = some ru) :
    (formPose s).coords = some (publishCoords (rawCoords s.rts.cal rb.v1 rs.v1 rk.v1 ru.v1)) ∧
    (formPose s).overrange = overranged (rawCoords s.rts.cal rb.v1 rs.v1 rk.v1 ru.v1) := by
  have hraw : frontCoords s.rts.cal (formPose s).plane s.siu = _ :=
    frontCoords_of_plane (cal := s.rts.cal) (p := s.mdc.calStatus) hp hb hs hk hu
  rw [formPose_coords, formPose_overrange, hraw]
  exact ⟨rfl, rfl⟩

/-! ### A dump -/

/-- The state in which a pass joins its truck at a dump. -/
def dumping (s : State) : State := { atPayload s with plu.detector := .return }

@[simp] theorem dumping_frame (s : State) :
    (dumping s).plu = { s.plu with detector := .return } ∧ (dumping s).eeu = s.eeu ∧ (dumping s).clock = s.clock ∧
    (dumping s).svu.loaded = s.svu.loaded := by
  simp [dumping]

theorem openedTruck_dumping (s : State) : openedTruck (dumping s) = openedTruck s := by
  simp [openedTruck]

theorem passAt_dumping (s : State) (p : Pass) : passAt (dumping s) p = passAt s p := by
  rw [passAt, openedTruck_dumping, passAt]

theorem joinedTruck_dumping (s : State) (p : Pass) : joinedTruck (dumping s) p = joinedTruck s p := by
  rw [joinedTruck, openedTruck_dumping, passAt_dumping, joinedTruck]

/-- The truck that the pass of a dump makes of the open one, or of a new one. -/
abbrev dumpTruck (s : State) : Truck := joinedTruck s (passOf (atPayload s))

/-- The state once the pass of a dump has joined its truck, before a full truck is closed. -/
abbrev dumpTaken (s : State) : State := passTaken (passOf (atPayload s)) (dumping s)

theorem meterKept_dumping {m : Meter} (h : m ≠ .violations) (s : State) : MeterKept m s (dumping s) :=
  (meterKept_atPayload h s).trans (.of_svu rfl)

theorem fuelReading_atPayload (s : State) : fuelReading (atPayload s) = fuelReading s := by
  obtain ⟨hmeter, hrem, -⟩ := meterKept_atPayload (m := .fuel) (by decide) s
  exact congrArg₂ (fun a b => a * 1000 + b) hmeter hrem

theorem isPass_dump (s : State) :
    IsPass s ((openedTruck s).passes.length + 1) (passAt s (passOf (atPayload s))) :=
  isPass_passAt _ (by simp) (by simp [formPose]) (fuelReading_atPayload s)

/-- The queue of a pose with few notices before it has room for all that the pose raises. -/
theorem room_of_length_le {q : List Notice} (h : q.length ≤ 4) (n : Nat) :
    Room (capsKeys ++ passKeys n ++ afterKeys) q := by
  have hle := List.length_filter_le (fun k => decide (k ∉ q.map noticeKey)) (capsKeys ++ passKeys n ++ afterKeys)
  have hlen : (capsKeys ++ passKeys n ++ afterKeys).length = 19 := rfl
  unfold Room
  omega

section Dump

variable {s : State} (hdump : payloadPose (atPayload s) = joinPass (passOf (atPayload s)) (dumping s))
include hdump

/-- The notices of a pass at a dump wait at the end of the event (R72, R73, R76). -/
theorem passNotices_dump (hn : s.lnc.notices.length ≤ 4) (hi : NoItems s) :
    PassNotices (openedTruck s) (dumpTruck s) (passAt s (passOf (atPayload s)))
      (settled s (poseEvent s)) := by
  obtain ⟨hitems, hcaps⟩ := announces_atPayload s hi
  have hroom := hcaps.room (by simp) (room_of_length_le hn (openedTruck s).number)
  have hjoined := passNotices_joinPass (s := dumping s) (passOf (atPayload s)) hitems hroom
    (by simp [openedTruck_dumping])
  obtain ⟨hitems', hpass⟩ := announces_joinPass (passOf (atPayload s)) (dumping s) hitems
  have hroom' := hpass.room (by simp [openedTruck_dumping]) hroom
  rw [openedTruck_dumping, joinedTruck_dumping, passAt_dumping] at hjoined
  rw [← hdump] at hjoined hitems' hroom'
  exact passNotices_of_raises hjoined (announces_afterPayload s hitems').2 (by simp) hroom'
    (by simp [passKeys, afterKeys, settleKeys, slotKeys])

/-- A pass at a dump that does not fill its truck leaves it open. -/
theorem plu_dump_of_open (h : (dumpTruck s).passes.length ≠ 12) :
    (settled s (poseEvent s)).plu = { s.plu with
      detector := .return, truck := some (dumpTruck s)
      nextNumber := if s.plu.truck.isSome then s.plu.nextNumber else nextTruckNumber s.plu.nextNumber } := by
  rw [(settled_poseEvent s).2, hdump, joinPass_eq, joinedTruck_dumping, if_neg h]
  simp [joinedTruck_dumping]

/-- The twelfth pass closes the truck and puts its summary in the list. -/
theorem plu_dump_of_full (h : (dumpTruck s).passes.length = 12) :
    (settled s (poseEvent s)).plu = { s.plu with
      detector := .return, truck := none
      completed := joinSummary s.plu.completed (summaryOfTruck (dumpTruck s) s.clock.time)
      nextNumber := if s.plu.truck.isSome then s.plu.nextNumber else nextTruckNumber s.plu.nextNumber } := by
  rw [(settled_poseEvent s).2, hdump, joinPass_eq, joinedTruck_dumping, if_pos h]
  simp

/-- The meters, remainder and pending sums of a truck that its twelfth pass closes (R76). -/
theorem meters_dump_of_full (h : (dumpTruck s).passes.length = 12) :
    let u := settled s (poseEvent s)
    let total := (dumpTruck s).total
    meterGet u.svu.meters .payload = meterAfter s .payload total ∧
    meterGet u.svu.meters .passes = meterAfter s .passes 12 ∧
    u.svu.payloadRem = remainderAfter s .payload total ∧
    meterGet u.svu.sums .payload = s.svu.sums.payload + (if s.svu.loaded then 0 else total) ∧
    meterGet u.svu.sums .passes = s.svu.sums.passes + (if s.svu.loaded then 0 else 12) := by
  intro u total
  have hu : ∀ m, m ≠ .slewTravel → MeterKept m (closeTruck (dumpTruck s) (dumpTaken s)) u := by
    intro m hm
    have hclose : payloadPose (atPayload s) = closeTruck (dumpTruck s) (dumpTaken s) := by
      rw [hdump, joinPass_eq, joinedTruck_dumping, if_pos h]
    exact hclose ▸ meterKept_afterPayload hm s
  have hv : ∀ m, m ≠ .violations → MeterKept m s (dumpTaken s) := fun m hm =>
    (meterKept_dumping hm s).trans (.of_svu (by simp))
  have hloaded : (dumpTaken s).svu.loaded = s.svu.loaded := by simp
  obtain ⟨hpay, hrem, hsum⟩ := closeTruck_payload (dumpTruck s) (dumpTaken s)
  obtain ⟨hpasses, hpassSum⟩ := closeTruck_passes (dumpTruck s) (dumpTaken s)
  have hvpay := hv .payload (by decide)
  have hvpasses := hv .passes (by decide)
  have ⟨_, _, hvsum⟩ := hvpay
  have ⟨_, _, hvpassSum⟩ := hvpasses
  obtain ⟨hupay, hurem, husum⟩ := hu .payload (by decide)
  obtain ⟨hupasses, -, hupassSum⟩ := hu .passes (by decide)
  refine ⟨?_, ?_, ?_, ?_, ?_⟩
  · rw [hupay, hpay, hvpay.meterAfter_eq hloaded]
  · rw [hupasses, hpasses, hvpasses.meterAfter_eq hloaded, h]
  · exact hurem.trans (hrem.trans (hvpay.remainderAfter_eq hloaded _))
  · rw [husum, hsum, hloaded, hvsum]; rfl
  · rw [hupassSum, hpassSum, hloaded, hvpassSum, h]; rfl

/-- A dump's pass joins the open truck or a new one, which its twelfth pass closes (R71 to R77). -/
theorem passJoins_dump : PassJoins s (passAt s (passOf (atPayload s))) (settled s (poseEvent s)) := by
  have hnext : ∀ {c : Prop} [Decidable c] (n : Nat), (if c then n else nextTruckNumber n) =
      if c then n else if n = 65535 then 0 else n + 1 := fun n => rfl
  by_cases h : (dumpTruck s).passes.length = 12
  · have hplu := plu_dump_of_full hdump h
    obtain ⟨hpay, hpasses, hrem, hsum, hpassSum⟩ := meters_dump_of_full hdump h
    have hsave : SaveAsked .trucks (settled s (poseEvent s)) := saveAsked_afterPayload (by
      rw [hdump, joinPass_eq, joinedTruck_dumping, if_pos h]
      exact mem_pendingSave_closeTruck _ _)
    refine ⟨by rw [hplu], by rw [hplu, hnext], fun hne => absurd h hne, fun _ => ?_,
      fun hn hi => passNotices_dump hdump hn hi⟩
    exact ⟨by rw [hplu], hsave, by rw [hplu]; rfl, hpay, hpasses, hrem, hsum, hpassSum⟩
  · have hplu := plu_dump_of_open hdump h
    refine ⟨by rw [hplu], by rw [hplu, hnext], fun _ => ⟨by rw [hplu]; rfl, by rw [hplu]⟩,
      fun hfull => absurd hfull h, fun hn hi => passNotices_dump hdump hn hi⟩

end Dump

/-! ### The statement's parts -/

/-- Saturation and stage 4 written out (R44, R45). -/
theorem publishCoords_eq (r : RawCoords) :
    let sat := fun v : Int => if 32767 < v then 32767 else if v < -32767 then -32767 else v
    publishCoords r = { xp := sat r.xp, zp := sat r.zp, x1 := sat r.x1, z1 := sat r.z1, x3 := sat r.x3, z3 := sat r.z3
                        h := if sat r.z1 ≤ sat r.z3 then sat r.z3 else sat r.z1
                        reach := sat r.x3, depth := sat r.z3 } := by
  simp only [← saturate_eq, ← publishCoords_h]
  rfl

/-- The detector at a pose that it takes, as the Payload Unit is at the end of the event. -/
theorem plu_of_plane {s : State} (hm : s.mdc.mode ≠ .closing) (hp : (formPose s).plane ≠ .invalid) :
    (settled s (poseEvent s)).plu = (detectPass (atPayload s)).plu := by
  rw [(settled_poseEvent s).2, payloadPose_of_plane (by simpa using hm) (by simpa using hp)]

theorem offered_atPayload {s t : State} (hp : (formPose s).plane ≠ .invalid) (hpose : t.gmu.pose = formPose s)
    (hs : t.siu = s.siu) (hc : t.rts.cal = s.rts.cal) :
    Offered s (formPose s) t.plu.samples (offerSample t).plu.samples := by
  have h := offered_offerSample (s := t) (by rwa [hpose])
  rwa [hpose, offered_congr hs hc] at h

/-- CARRY entered at a pose: its start, its fuel mark and the first sample offered (R61, R65). -/
theorem startCarry_atPayload {s : State} (hp : (formPose s).plane ≠ .invalid) :
    let u := offerSample (startCarry (atPayload s))
    u.plu = { s.plu with
      detector := .carry, samples := u.plu.samples, carryStart := some s.now
      carryFuel := some (s.svu.meters.fuel * 1000 + s.svu.fuelRem) } ∧
    Offered s (formPose s) [] u.plu.samples := by
  have hfuel : fuelReading (atPayload s) = s.svu.meters.fuel * 1000 + s.svu.fuelRem := fuelReading_atPayload s
  refine ⟨?_, offered_atPayload (t := startCarry (atPayload s)) hp (by simp) (by simp) (by simp)⟩
  rw [offerSample_plu]
  simp [startCarry, hfuel, formPose]

/-- A sample offered in CARRY changes the sample list alone (R65, R69). -/
theorem offerSample_atPayload {s : State} (hp : (formPose s).plane ≠ .invalid) :
    (offerSample (atPayload s)).plu = { s.plu with samples := (offerSample (atPayload s)).plu.samples } ∧
    Offered s (formPose s) s.plu.samples (offerSample (atPayload s)).plu.samples := by
  refine ⟨by rw [offerSample_plu]; simp, ?_⟩
  simpa using offered_atPayload (t := atPayload s) hp (by simp) (by simp) (by simp)

theorem detectorReady_atPayload (s : State) : (detectorReady (atPayload s)).plu =
    { s.plu with detector := .ready, samples := [], carryStart := none, carryFuel := none } := by
  simp [detectorReady]

theorem bucketFilled_atPayload (s : State) : bucketFilled (atPayload s) = true ↔
    ∃ k st, (formPose s).bucket = some k ∧ (formPose s).stick = some st ∧
      calCurl s.rts.cal ≤ (k - st + 18000) % 36000 - 18000 := by
  simpa using bucketFilled_iff (atPayload s)

/-- READY at a pose (R61): CARRY begins exactly when the boom lifts a filled bucket. -/
theorem plu_of_ready {s : State} (hm : s.mdc.mode ≠ .closing) (hp : (formPose s).plane ≠ .invalid)
    (hr : s.plu.detector = .ready) : (settled s (poseEvent s)).plu =
      if rateAtLeast (formPose s).boomRate 300 && bucketFilled (atPayload s)
        then (offerSample (startCarry (atPayload s))).plu else s.plu := by
  rw [plu_of_plane hm hp, detectPass_of_ready (by simpa using hr), apply_ite State.plu]
  simp

/-- CARRY at a pose (R62, R63): a dump, else a lowering, else one more sample. -/
theorem plu_of_carry {s : State} (hm : s.mdc.mode ≠ .closing) (hp : (formPose s).plane ≠ .invalid)
    (hr : s.plu.detector = .carry) (hd : ¬ rateAtMost (formPose s).bucketRate (-2000) = true) :
    (settled s (poseEvent s)).plu = if rateAtMost (formPose s).boomRate (-300)
      then (detectorReady (atPayload s)).plu else (offerSample (atPayload s)).plu := by
  rw [plu_of_plane hm hp, detectPass_of_carry (by simpa using hr), if_neg (by simpa using hd),
    apply_ite State.plu]
  simp

/-- RETURN at a pose (R63): READY again once the boom is lowered. -/
theorem plu_of_return {s : State} (hm : s.mdc.mode ≠ .closing) (hp : (formPose s).plane ≠ .invalid)
    (hr : s.plu.detector = .return) : (settled s (poseEvent s)).plu =
      if rateAtMost (formPose s).boomRate (-300) then (detectorReady (atPayload s)).plu else s.plu := by
  rw [plu_of_plane hm hp, detectPass_of_return (by simpa using hr), apply_ite State.plu]
  simp

theorem payloadPose_of_dump {s : State} (hm : s.mdc.mode ≠ .closing) (hp : (formPose s).plane ≠ .invalid)
    (hr : s.plu.detector = .carry) (hd : rateAtMost (formPose s).bucketRate (-2000) = true) :
    payloadPose (atPayload s) = joinPass (passOf (atPayload s)) (dumping s) := by
  rw [payloadPose_of_plane (by simpa using hm) (by simpa using hp), detectPass_of_carry (by simpa using hr),
    if_pos (by simpa using hd), dumping]

/-- Settles O20: a pose's record is the one formed from the channels, so its coordinates, rates and grade fields are
those of the stages; the Payload Unit takes it in the state that the Envelope Unit leaves, which keeps all that the
detector reads. -/
theorem poseCoordinatesAndRates : Obligations.PoseCoordinatesAndRates := by
  refine ⟨?_, ?_, ?_, ?_, ?_⟩
  · intro s ha hd rb rs rk ru hb hs hk hu
    refine eventGives_poseTimer ha hd ?_
    simp only [settled_poseEvent]
    refine ⟨formPose_of_invalid, fun hp => ?_⟩
    obtain ⟨hcoords, hover⟩ := formPose_of_plane hp hb hs hk hu
    rw [hcoords, hover, publishCoords_eq, overranged_iff]
    exact ⟨rfl, Iff.rfl⟩
  · intro s m ha hd hm
    refine eventGives_poseTimer ha hd ?_
    simp only [settled_poseEvent, formPose, slewDiff, hm, Option.map_some, rate_eq_some_iff]
    simp
  · intro s ha hd
    refine eventGives_poseTimer ha hd ?_
    simp only [settled_poseEvent, formPose_deviation, formPose_gradeFloor]
    refine ⟨fun hg => by simp [hg], fun g hg hc => by simp [hg, hc], fun g x hg hx => ?_⟩
    obtain ⟨q, hq, hheight⟩ := targetHeight_rounds g x.x3
    exact ⟨q, targetHeight g x.x3, hq, hheight, by simp [hg, hx, clampInt], by simp [hg, hx]⟩
  · intro s ha hd hmode
    refine eventGives_poseTimer ha hd ?_
    simp only [(settled_poseEvent s).1, ← rateAtLeast_iff, ← rateAtMost_iff, ← bucketFilled_atPayload]
    refine fun hp => ⟨fun hr hlift hfill => ?_, fun hr hnot => ?_, fun hr hdump => ?_, fun hr hdump hlow => ?_,
      fun hr hdump hlow => ?_, fun hr hlow => ?_, fun hr hlow => ?_⟩
    · rw [plu_of_ready hmode hp hr, if_pos (by simp [hlift, hfill])]
      exact startCarry_atPayload hp
    · rw [plu_of_ready hmode hp hr, if_neg (by simpa using hnot)]
    · exact ⟨_, isPass_dump s, passJoins_dump (payloadPose_of_dump hmode hp hr hdump)⟩
    · rw [plu_of_carry hmode hp hr hdump, if_pos hlow, detectorReady_atPayload]
    · rw [plu_of_carry hmode hp hr hdump, if_neg hlow]
      exact offerSample_atPayload hp
    · rw [plu_of_return hmode hp hr, if_neg hlow]
    · rw [plu_of_return hmode hp hr, if_pos hlow, detectorReady_atPayload]
  · exact fun v x0 step a hs => ⟨interpolate_of_le v step, interpolate_of_top_le v hs,
      fun i hi hlo hhi => interpolate_of_segment v hs hi hlo hhi⟩

end Sys2Proof.Proofs
end

section
/-! PROOFS. The cap of a fence at a distance (R106), its bounds and its growth, and the caps that each shape of fence
gives (R105 to R110). -/

namespace Sys2Proof.Proofs

open Sys2Proof Sys2Proof.Machine

/-! ### The cap at a distance -/

theorem capAt_of_nonpos {d : Int} (h : d ≤ 0) (w c : Nat) : capAt d w c = 0 := if_pos h

theorem capAt_of_margin_le {d : Int} {w : Nat} (hw : 0 < w) (h : (w : Int) ≤ d) (c : Nat) : capAt d w c = 100 := by
  rw [capAt, if_neg (by omega), if_pos h]

/-- Inside the margin the cap is the creep cap and the floored share of what is left (R106), over the integers. -/
theorem capAt_of_inside {d : Int} {w c : Nat} (hc : c ≤ 100) (h0 : 0 < d) (h : d < w) :
    (capAt d w c : Int) = c + (100 - c) * d / w := by
  rw [capAt, if_neg (by omega), if_neg (by omega)]
  push_cast [hc, Int.toNat_of_nonneg h0.le]
  rfl

/-- The floored share, by the two bounds of its division. -/
theorem capAt_share_bounds {d : Int} {w c : Nat} (hc : c ≤ 100) (h0 : 0 < d) (h : d < w) :
    (capAt d w c - c : Int) * w ≤ (100 - c) * d ∧ (100 - c) * d < (capAt d w c - c + 1 : Int) * w := by
  rw [capAt_of_inside hc h0 h, add_sub_cancel_left, add_one_mul]
  exact floor_bounds _ (h0.trans h)

theorem creep_le_capAt {d : Int} {w c : Nat} (hc : c ≤ 100) (h0 : 0 < d) : c ≤ capAt d w c := by
  rw [capAt, if_neg (by omega)]
  split
  · exact hc
  · exact Nat.le_add_right c _

/-- Less than the whole of what is left above the creep cap is added inside the margin. -/
theorem capAt_le_of_inside {d : Int} {w c : Nat} (hc : c < 100) (h0 : 0 < d) (h : d < w) : capAt d w c ≤ 99 := by
  have hshare : (100 - (c : Int)) * d / w < 100 - c :=
    Int.ediv_lt_of_lt_mul (h0.trans h) (Int.mul_lt_mul_of_pos_left h (by omega))
  have hcap := capAt_of_inside hc.le h0 h
  omega

theorem capAt_le {c : Nat} (hc : c < 100) (d : Int) (w : Nat) : capAt d w c ≤ 100 := by
  rcases Int.lt_or_le 0 d with h0 | h0
  · rcases Int.lt_or_le d w with h | h
    · exact (capAt_le_of_inside hc h0 h).trans (by omega)
    · rw [capAt, if_neg (by omega), if_pos h]
  · simp [capAt_of_nonpos h0]

/-- One step inside the limit the share of what is left is still below one percent (R106). -/
theorem capAt_one {w c : Nat} (hw : 100 ≤ w) (hc : 0 < c) (hc' : c ≤ 100) : capAt 1 w c = c := by
  have hcap := capAt_of_inside (d := 1) hc' Int.one_pos (by omega : (1 : Int) < w)
  rw [Int.mul_one, Int.ediv_eq_zero_of_lt (by omega) (by omega)] at hcap
  omega

/-- The cap does not fall as the distance grows: beyond the margin it is at its top, and inside it the share grows. -/
theorem capAt_mono {d e : Int} {w c : Nat} (hw : 0 < w) (hc : c < 100) (hde : d ≤ e) : capAt d w c ≤ capAt e w c := by
  rcases Int.lt_or_le 0 d with h0 | h0
  · rcases Int.lt_or_le e w with h | h
    · have hshare : (100 - (c : Int)) * d / w ≤ (100 - c) * e / w :=
        Int.ediv_le_ediv (by omega) (Int.mul_le_mul_of_nonneg_left hde (by omega))
      have hd := capAt_of_inside hc.le h0 (by omega : d < w)
      have he := capAt_of_inside hc.le (by omega) h
      omega
    · rw [capAt_of_margin_le hw h]
      exact capAt_le hc d w
  · simp [capAt_of_nonpos h0]

/-- With a margin of at least 100, one step of the distance adds at most one percent to the share (R106); the last step
adds what the floor left. -/
theorem capAt_succ_le {d : Int} {w c : Nat} (hw : 100 ≤ w) (hc : c < 100) (h0 : 0 < d) :
    capAt (d + 1) w c ≤ capAt d w c + 1 := by
  have hw' : (0 : Int) < w := by omega
  rcases Int.lt_or_le d w with h | h
  · have hd := capAt_of_inside hc.le h0 h
    have hshare : (100 - (c : Int)) * (d + 1) / w ≤ (100 - c) * d / w + 1 :=
      calc (100 - (c : Int)) * (d + 1) / w
        _ ≤ ((100 - c) * d + 1 * w) / w := Int.ediv_le_ediv hw' (by rw [mul_add]; omega)
        _ = (100 - c) * d / w + 1 := Int.add_mul_ediv_right _ 1 hw'.ne'
    rcases Int.lt_or_le (d + 1) w with h1 | h1
    · have hd1 := capAt_of_inside hc.le (by omega) h1
      omega
    · rw [capAt_of_margin_le (by omega) h1]
      rw [show d + 1 = w by omega, Int.mul_ediv_cancel _ hw'.ne'] at hshare
      omega
  · rw [capAt_of_margin_le (by omega) h]
    exact (capAt_le hc _ _).trans (by omega)

/-! ### Sectors -/

theorem mod360_cast (a : Int) : (mod360 a : Int) = a % 36000 := Int.toNat_of_nonneg (Int.emod_nonneg a (by decide))

theorem inSector_iff (sigma : Int) (r : Sector) :
    inSector sigma r = true ↔ (sigma - r.first) % 36000 < ((r.last : Int) - r.first) % 36000 := by
  rw [inSector, decide_eq_true_iff, ← Int.ofNat_lt, mod360_cast, mod360_cast]

theorem isSlew_iff (f : HydFn) : isSlew f = true ↔ f = .slewLeft ∨ f = .slewRight := by simp [isSlew]

/-- A front function takes 100 from any pair of slew caps. -/
theorem slewCapOf_of_front (c : SlewCaps) {f : HydFn} (h : ¬ isSlew f = true) : slewCapOf c f = 100 := by
  cases f
  case slewLeft | slewRight => exact absurd rfl h
  all_goals rfl

/-- The slew function toward the nearer edge creeps, the left one on a tie, and the other is held (R108). -/
def heldCap (sigma : Int) (r : Sector) (c : Nat) (f : HydFn) : Nat :=
  if f = .slewLeft then (if ((r.last : Int) - sigma) % 36000 ≤ (sigma - r.first) % 36000 then c else 0)
  else if ((r.last : Int) - sigma) % 36000 ≤ (sigma - r.first) % 36000 then 0 else c

theorem slewCapOf_sectorHold (sigma : Int) (r : Sector) (c : Nat) {f : HydFn} (h : isSlew f = true) :
    slewCapOf (sectorHold sigma r c) f = heldCap sigma r c f := by
  unfold sectorHold heldCap
  simp only [← Int.ofNat_le, mod360_cast]
  rcases (isSlew_iff f).mp h with rfl | rfl
  · rw [if_pos rfl]
    split <;> rfl
  · rw [if_neg (show HydFn.slewRight ≠ .slewLeft by decide)]
    split <;> rfl

theorem heldCap_le (sigma : Int) (r : Sector) (c : Nat) (f : HydFn) : heldCap sigma r c f ≤ c := by
  unfold heldCap
  split_ifs <;> omega

/-- A planar fence restricts no slew function (R105). -/
theorem not_restricts_of_isSlew (k : PlanarKind) {f : HydFn} (h : isSlew f = true) : restricts k f = false := by
  rcases (isSlew_iff f).mp h with rfl | rfl <;> cases k <;> rfl

/-! ### The caps of a fence, by its shape -/

/-- What a fence gives when a needed part is INVALID (R110). -/
theorem fenceCap_of_partLost {fe : Fence} {p : Pose} (h : partLost fe.shape p.plane p.slew = true) (f : HydFn) :
    fenceCap fe p f = if creeps fe.shape f then fe.creep else 100 := if_pos h

section Measured

variable {fe : Fence} {k : PlanarKind} {l : Int} {r : Sector} {p : Pose} {x : Coords} {sigma : Int}

theorem fenceCap_planar (hs : fe.shape = .planar k l none) (hp : p.plane ≠ .invalid) (hx : p.coords = some x)
    (f : HydFn) : fenceCap fe p f = planarCap k (planarDistance k l x) fe.margin fe.creep f := by
  simp [fenceCap, partLost, hs, hp, hx]

theorem fenceCap_sector (hs : fe.shape = .sector r) (hp : p.slew ≠ .invalid) (hx : p.sigma = some sigma) (f : HydFn) :
    fenceCap fe p f = if inSector sigma r then slewCapOf (sectorHold sigma r fe.creep) f
      else slewCapOf (sectorApproach sigma r fe.margin fe.creep) f := by
  simp [fenceCap, partLost, hs, hp, hx]

theorem fenceCap_guarded (hs : fe.shape = .planar k l (some r)) (hp : p.plane ≠ .invalid) (hq : p.slew ≠ .invalid)
    (hx : p.coords = some x) (hy : p.sigma = some sigma) (f : HydFn) :
    fenceCap fe p f = if inSector sigma r then
        if 0 < planarDistance k l x then planarCap k (planarDistance k l x) fe.margin fe.creep f
        else min (planarCap k (planarDistance k l x) fe.margin fe.creep f) (slewCapOf (sectorHold sigma r fe.creep) f)
      else if (fe.margin : Int) ≤ planarDistance k l x then 100
      else slewCapOf (sectorApproach sigma r 1500 fe.creep) f := by
  simp [fenceCap, partLost, hs, hp, hq, hx, hy]

end Measured

/-- Beyond the limit of a guarded fence, inside its applicability sector: the restricted functions are at 0, and the
slew is held as a SECTOR holds it (R109). -/
theorem beyondLimit_cap {d : Int} (hd : d ≤ 0) {c : Nat} (hc : c ≤ 100) (k : PlanarKind) (w : Nat) (sigma : Int)
    (r : Sector) (f : HydFn) :
    min (planarCap k d w c f) (slewCapOf (sectorHold sigma r c) f) =
      if restricts k f then 0 else if isSlew f then heldCap sigma r c f else 100 := by
  rw [planarCap, capAt_of_nonpos hd]
  by_cases hf : isSlew f = true
  · have hheld : heldCap sigma r c f ≤ 100 := (heldCap_le sigma r c f).trans hc
    simp [not_restricts_of_isSlew k hf, slewCapOf_sectorHold sigma r c hf, hf, hheld]
  · rw [slewCapOf_of_front _ hf, if_neg hf]
    split <;> rfl

/-- Settles O55: the cap at a distance by its floored share, and each shape of fence by its equation. -/
theorem capGrowsWithTheDistance : Obligations.CapGrowsWithTheDistance := by
  intro d w c hw hc hc'
  have hc100 : c < 100 := by omega
  have hw0 : 0 < w := by omega
  refine ⟨fun h => capAt_of_nonpos h w c, fun h => capAt_of_margin_le hw0 h c, fun h0 h => ?_,
    capAt_one hw (by omega) hc100.le, fun e => capAt_mono hw0 hc100, capAt_succ_le hw hc100, ?_, ?_, ?_,
    fun r sigma => inSector_iff sigma r, ?_⟩
  · exact ⟨creep_le_capAt hc100.le h0, capAt_le_of_inside hc100 h0 h, capAt_share_bounds hc100.le h0 h⟩
  · rintro fe k l p x f hs rfl rfl hp hx
    exact fenceCap_planar hs hp hx f
  · rintro fe r p sigma hs rfl rfl hp hx hout
    simp only [fenceCap_sector hs hp hx, hout]
    exact ⟨rfl, rfl⟩
  · rintro fe k l r p x sigma hs rfl rfl hp hq hx hy hout hd
    simp only [fenceCap_guarded hs hp hq hx hy, hout, if_neg (Int.not_le.mpr hd)]
    exact ⟨rfl, rfl⟩
  · rintro fe p f rfl rfl
    simp only [← isSlew_iff]
    refine ⟨fun r sigma hs hp hx => ⟨fun hf => ?_, fun hf hin => ?_⟩,
      fun k l r x sigma hs hp hq hx hy => ⟨fun hin hd => ?_, fun hin hd => ?_, fun hout hd => ?_, fun hout hd hf => ?_⟩,
      fun k l hs hp => ?_, fun k l r hs hp => ?_, fun r hs hp => ?_⟩
    · rw [fenceCap_sector hs hp hx, slewCapOf_of_front _ hf, slewCapOf_of_front _ hf, ite_self]
    · rw [fenceCap_sector hs hp hx, if_pos hin]
      exact slewCapOf_sectorHold sigma r _ hf
    · rw [fenceCap_guarded hs hp hq hx hy, if_pos hin, if_pos hd]
      rfl
    · rw [fenceCap_guarded hs hp hq hx hy, if_pos hin, if_neg (Int.not_lt.mpr hd)]
      exact beyondLimit_cap hd hc100.le k _ sigma r f
    · rw [fenceCap_guarded hs hp hq hx hy, if_neg (by simp [hout]), if_pos hd]
    · rw [fenceCap_guarded hs hp hq hx hy, if_neg (by simp [hout]), if_neg (Int.not_le.mpr hd), slewCapOf_of_front _ hf]
    · rw [fenceCap_of_partLost (by simp [partLost, hs, hp]), hs]
      rfl
    · rw [fenceCap_of_partLost (by simpa [partLost, hs] using hp), hs]
      rfl
    · rw [fenceCap_of_partLost (by simp [partLost, hs, hp]), hs]
      exact ⟨fun hf => if_pos hf, fun hf => if_neg hf⟩

end Sys2Proof.Proofs
end
